-- ==== Sys2Proof/Word.lean ====
section
/-! DEFINITION. The 32-bit bus word and the numbers by which the part names its agents, client slots,
clients and locks (spec/00_scope.md, sections 2 and 4). -/

namespace Sys2Proof

/-- A word of the system bus; every register of the window is 32 bits wide (R160). -/
abbrev Word := BitVec 32

/-- One of the eight bus masters, named by the agent page it uses. -/
abbrev AgentId := Fin 8

/-- One of the four client slots of an agent. -/
abbrev Slot := Fin 4

/-- A global client number, `agent × 4 + slot`. -/
abbrev ClientId := Fin 32

/-- A lock number. -/
abbrev LockId := Fin 64

/-- A request priority or a lock ceiling, 0–15 with 0 the most urgent. -/
abbrev Priority := Fin 16

/-- A protection domain. -/
abbrev Domain := Fin 4

end Sys2Proof
end

