-- ==== Sys2Proof/Config.lean ====
section
/-! DEFINITION. The sizes the spec fixes for the part (spec/00_scope.md, section 4). The spec leaves no
value of the lock system open, so there is no free value here: the one input it leaves to the
board, the level of each agent reset input at power-on, is an operand of POWER_ON_RESET. -/

namespace Sys2Proof.Config

/-- Hold records in the hold pool (R29). -/
def poolSize : Nat := 96

/-- Most holds one client may have (R22). -/
def holdsPerClient : Nat := 8

/-- Notice slots of one agent (R96). -/
def noticeDepth : Nat := 16

/-- Most entries of one waiter queue (R61). -/
def waitersPerLock : Nat := 31

/-- The last lock of a sweep pass (R76). -/
def lastLock : LockId := 63

end Sys2Proof.Config
end

