-- ==== Sys2Proof/Syntax.lean ====
section
/-! DEFINITION. The commands of the part: one constructor of `Instr` for each row of
spec/opcode_table.json, with the operands the spec gives the row. A command is a bus access (an ACMD
write, a claim-window access, a notice read, a register write, a supervisor command), an input
edge, or a happening the part takes of its own (a tick, an expiry, a sweep or reclaim step). -/

namespace Sys2Proof

/-- The mode of a request or a hold (R36). -/
inductive Mode where
  | exclusive
  | shared
  deriving DecidableEq, Repr

/-- The kind of an ACQUIRE (R36): TRY is answered at once, WAIT may enter the waiter queue. -/
inductive Kind where
  | tryOnce
  | wait
  deriving DecidableEq, Repr

/-- The width of a bus access (R128). -/
inductive AccessSize where
  | byte
  | halfword
  | word
  deriving DecidableEq, Repr

/-- One bus access in the 16 KiB region of the part (R127): its byte address from the base of the
region, its width, and the word written, or none for a read. -/
structure BusAccess where
  address : BitVec 14
  size : AccessSize
  write : Option Word
  deriving DecidableEq, Repr

/-- The read-only registers named by R128 and the maps of R161 and R162; a word write to one of them
is acknowledged and ignored. -/
inductive ReadOnlyReg where
  | result (agent : AgentId) (slot : Slot)
  | cstat (agent : AgentId) (slot : Slot)
  | notice (agent : AgentId)
  | npeek (agent : AgentId)
  | nqstat (agent : AgentId)
  | faultrec (agent : AgentId)
  | ainfo (agent : AgentId)
  | sresult
  | inspect (index : Fin 4)
  | sweepstat
  | jobstat
  | agstate
  | linestat
  | denialrec
  deriving DecidableEq, Repr

/-- The registers whose word write is the row REGISTER_WRITE: those with no row of their own. -/
inductive PlainReg where
  | waitlim (agent : AgentId) (slot : Slot)
  | wincfg (agent : AgentId)
  | nqcfg (agent : AgentId)
  | aen (agent : AgentId)
  | cfgA
  | cfgB
  | agcfg (agent : AgentId)
  | sen
  | readOnly (reg : ReadOnlyReg)
  deriving DecidableEq, Repr

/-- The commands. An ACMD command carries its operand fields (R163) and, as `unused`, the bits of the
written word above the fields of its opcode: the fault record keeps some of them (R167). A
supervisor command carries the number field as written (R168). A write-one-to-clear command carries
the whole written word, since one write may clear several flags (R139, R144). -/
inductive Instr where
  /-- ACQUIRE (R38), written to ACMD of page `agent`; `unused` is bits 31:17 of the word. -/
  | acquire (agent : AgentId) (slot : Slot) (lock : LockId) (mode : Mode) (kind : Kind) (priority : Priority) (unused : BitVec 15)
  /-- RELEASE (R49); `unused` is bits 31:11 of the word. -/
  | release (agent : AgentId) (slot : Slot) (lock : LockId) (unused : BitVec 21)
  /-- CANCEL (R54); `unused` is bits 31:5 of the word. -/
  | cancel (agent : AgentId) (slot : Slot) (unused : BitVec 27)
  /-- RENEW (R91); `unused` is bits 31:11 of the word. -/
  | renew (agent : AgentId) (slot : Slot) (lock : LockId) (unused : BitVec 21)
  /-- MARK_CLEAN (R53); `unused` is bits 31:11 of the word. -/
  | markClean (agent : AgentId) (slot : Slot) (lock : LockId) (unused : BitVec 21)
  /-- MAIL (R107); `unused` is bits 31:24 of the word. -/
  | mail (agent : AgentId) (slot : Slot) (target : AgentId) (payload : BitVec 16) (unused : BitVec 8)
  /-- BAD_OPCODE (R129): an ACMD word whose opcode is 0 or 7; `unused` is bits 31:5 of the word. -/
  | badOpcode (agent : AgentId) (slot : Slot) (opcode : BitVec 3) (unused : BitVec 27)
  /-- CLAIM_READ (R135): a word read of CLAIMn in page `agent`. -/
  | claimRead (agent : AgentId) (lock : LockId)
  /-- CLAIM_WRITE (R136): a word write of CLAIMn in page `agent`; the data are ignored. -/
  | claimWrite (agent : AgentId) (lock : LockId) (data : Word)
  /-- NOTICE_POP (R104): a word read of NOTICE in page `agent`. -/
  | noticePop (agent : AgentId)
  /-- CLEAR_LOST (R102): a word written to AFLAGS with LOST, bit 0, set. -/
  | clearLost (agent : AgentId) (written : Word)
  /-- CLEAR_FAULT (R139): a word written to AFLAGS with FAULT, bit 1, set. -/
  | clearFault (agent : AgentId) (written : Word)
  /-- CLEAR_MULTI (R139): a word written to AFLAGS with MULTI, bit 2, set and FAULT clear. -/
  | clearMulti (agent : AgentId) (written : Word)
  /-- ACCESS_MISUSE (R128): a sub-word access, or a word access to an undecoded offset. -/
  | accessMisuse (access : BusAccess)
  /-- REGISTER_WRITE (R160): a word write to a register that has no row of its own. -/
  | registerWrite (reg : PlainReg) (written : Word)
  /-- SETCFG (R2). -/
  | setcfg (lock : LockId)
  /-- ONLINE (R11). -/
  | online (lock : LockId)
  /-- OFFLINE (R11). -/
  | offline (lock : LockId)
  /-- RESTORE (R12). -/
  | restore (lock : LockId)
  /-- INSPECT_LOCK (R153). -/
  | inspectLock (lock : LockId)
  /-- INSPECT_CLIENT (R154); the number is used modulo 32 (R149). -/
  | inspectClient (number : Fin 64)
  /-- DETACH_CLIENT (R116); the number is used modulo 32 (R149). -/
  | detachClient (number : Fin 64)
  /-- DETACH_AGENT (R117); the number is used modulo 8 (R149). -/
  | detachAgent (number : Fin 64)
  /-- ATTACH (R117); the number is used modulo 8 (R149). -/
  | attach (number : Fin 64)
  /-- SOFT_RESET (R158); the number field is not used (R149). -/
  | softReset (number : Fin 64)
  /-- BAD_COMMAND (R149): an SCMD word whose code is 0 or 11–15; the number field is not used. -/
  | badCommand (code : BitVec 4) (number : Fin 64)
  /-- GATE_WRITE (R72). -/
  | gateWrite (written : Word)
  /-- TBCTRL_WRITE (R80). -/
  | tbctrlWrite (written : Word)
  /-- TBNOW_WRITE (R81). -/
  | tbnowWrite (written : Word)
  /-- POOLSTAT_WRITE (R33). -/
  | poolstatWrite (written : Word)
  /-- CLEAR_ACCESS_ERR (R144): a word written to SFLAGS with ACCESS_ERR, bit 0, set. -/
  | clearAccessErr (written : Word)
  /-- CLEAR_DENIAL (R147): a word written to SFLAGS with DENIAL, bit 1, set. -/
  | clearDenial (written : Word)
  /-- CLEAR_LOCK_DEAD (R144): a word written to SFLAGS with LOCK_DEAD, bit 2, set. -/
  | clearLockDead (written : Word)
  /-- CLEAR_JOB_DONE (R144): a word written to SFLAGS with JOB_DONE, bit 3, set. -/
  | clearJobDone (written : Word)
  /-- CLEAR_SWEEP_DONE (R144): a word written to SFLAGS with SWEEP_DONE, bit 4, set. -/
  | clearSweepDone (written : Word)
  /-- POWER_ON_RESET (R1): bit n of `levels` is 1 when agent n's reset input is asserted (R112). -/
  | powerOnReset (levels : BitVec 8)
  /-- RESET_ASSERTION (R113): agent n's synchronised reset input becomes asserted. -/
  | resetAssertion (agent : AgentId)
  /-- RESET_DEASSERTION (R113): agent n's synchronised reset input becomes deasserted. -/
  | resetDeassertion (agent : AgentId)
  /-- TICK (R81): the end of a tick period. -/
  | tick
  /-- HOLD_EXPIRY (R87) of the client's hold on the lock. -/
  | holdExpiry (client : ClientId) (lock : LockId)
  /-- WAIT_EXPIRY (R84) of the client's wait. -/
  | waitExpiry (client : ClientId)
  /-- SWEEP_STEP (R75). -/
  | sweepStep
  /-- WAIT_STEP (R118) of the ACTIVE job. -/
  | waitStep
  /-- HOLD_STEP (R119) of the ACTIVE job. -/
  | holdStep
  /-- FLUSH_STEP (R120) of the ACTIVE job. -/
  | flushStep
  /-- CLIENT_JOB_FINAL_STEP (R121). -/
  | clientJobFinalStep
  /-- AGENT_JOB_FINAL_STEP (R122). -/
  | agentJobFinalStep
  deriving DecidableEq, Repr

end Sys2Proof
end

