-- ==== Sys2Proof/Machine/State.lean ====
section
/-! DEFINITION. The state of the part, block by block as spec/00_scope.md section 1.2 owns it, and its
value right after power-on reset. State is plain data. What the spec derives from other state is not
stored a second time: the holders set of a lock, the held list of a client, the mark, the client
ceiling, the free count, the used count, the level causes and the interrupt outputs are functions
of this state (Ops, Flags, Views). -/

namespace Sys2Proof.Machine

/-! ## Lock Engine -/

/-- The seven lock states (spec/01, section 1.2). -/
inductive LockState where
  | offline
  | free
  | held
  | shared
  | suspect
  | orphaned
  | dead
  deriving DecidableEq, Repr

/-- What the expiry of a hold budget does (R1). -/
inductive Action where
  | warn
  | revoke
  | warnRevoke
  deriving DecidableEq, Repr

/-- The seven configuration fields of a lock record (R1). -/
structure LockConfig where
  ceiling : Priority
  domain : Domain
  sharedOk : Bool
  renewable : Bool
  budget : BitVec 16
  action : Action
  grace : BitVec 16
  deriving DecidableEq, Repr

/-- A lock record (R1). The holders set is the holds of the pool that name this lock
(`State.holders`); the order of `queue` is the order of arrival among equal priorities (R59). -/
structure LockRecord where
  state : LockState
  config : LockConfig
  queue : List ClientId
  generation : BitVec 16
  cleanPending : Bool
  deriving DecidableEq, Repr

/-- The budget phase of a hold (R29). -/
inductive Phase where
  | budget
  | grace
  deriving DecidableEq, Repr

/-- A countdown of the TB (R79, R82): none is unarmed, some 0 is due, some v has v ticks to go. -/
abbrev Countdown := Option (BitVec 16)

/-- A hold record in use as a hold (R29). -/
structure Hold where
  client : ClientId
  lock : LockId
  mode : Mode
  generation : BitVec 16
  countdown : Countdown
  phase : Phase
  warned : Bool
  deriving DecidableEq, Repr

/-- A hold record in use (R29): a reservation carries only the client and the lock. -/
inductive PoolRecord where
  | reservation (client : ClientId) (lock : LockId)
  | hold (h : Hold)
  deriving DecidableEq, Repr

/-! ## Client Table -/

/-- The four client states (spec/02, section 2.2). -/
inductive ClientState where
  | off
  | ready
  | waiting
  | detaching
  deriving DecidableEq, Repr

/-- A wait record (R21). Its arrival order is the client's place in the waiter queue (R59). -/
structure WaitRecord where
  lock : LockId
  mode : Mode
  priority : Priority
  countdown : Countdown
  deriving DecidableEq, Repr

/-- How a client's most recent wait ended (R26). -/
inductive WaitEnd where
  | none
  | granted
  | expired
  | flushed
  | cancelled
  deriving DecidableEq, Repr

/-- The results of agent commands (R164): the outcomes, then the faults. -/
inductive Result where
  | none
  | ok
  | okSuspect
  | waiting
  | busy
  | gated
  | noSpace
  | queueFull
  | dead
  | detaching
  | released
  | releasedDead
  | revokedEarlier
  | cancelled
  | tooLate
  | renewed
  | cleaned
  | mailed
  | targetOff
  | badOpcode
  | clientOff
  | clientWaiting
  | lockOffline
  | denied
  | selfHeld
  | noShared
  | holdLimit
  | order
  | notHolder
  | notWaiting
  | notRenewable
  | notSuspect
  deriving DecidableEq, Repr

/-- A result word by its fields (R37, R164). -/
structure ResultWord where
  result : Result
  slot : Slot
  lock : LockId
  generation : BitVec 16
  deriving DecidableEq, Repr

/-- A client context (R19). The held list, the mark and the client ceiling are computed
(`State.heldList`, `State.mark`, `State.clientCeiling`). -/
structure Client where
  state : ClientState
  wait : Option WaitRecord
  waitLimit : BitVec 16
  lastWaitEnd : WaitEnd
  revoked : Vector Bool 64
  result : ResultWord
  deriving DecidableEq, Repr

/-- The window configuration of an agent (R134). -/
structure Window where
  slot : Slot
  priority : Priority
  deriving DecidableEq, Repr

/-! ## Notice Unit -/

/-- Why a wait ended without a grant (R103). -/
inductive WaitEndReason where
  | expired
  | dead
  deriving DecidableEq, Repr

/-- A notice (R103). EMPTY is never stored. -/
inductive Notice where
  | granted (slot : Slot) (lock : LockId) (mode : Mode) (suspect : Bool) (generation : BitVec 16)
  | waitEnded (slot : Slot) (lock : LockId) (reason : WaitEndReason)
  | warned (slot : Slot) (lock : LockId) (generation : BitVec 16)
  | revoked (slot : Slot) (lock : LockId) (generation : BitVec 16)
  | mail (sender : ClientId) (payload : BitVec 16)
  deriving DecidableEq, Repr

/-- A captured fault (R138, R167): its source, bits 23:0 of the command word, and the fault. -/
structure FaultRecord where
  window : Bool
  command : BitVec 24
  fault : Result
  deriving DecidableEq, Repr

/-- What the NU holds for one agent (R96, R138, R141). The used count is the queue's length. -/
structure AgentNotices where
  queue : List Notice
  reserved : Nat
  lost : Bool
  lostWarned : Bool
  lostRevoked : Bool
  threshold : Fin 17
  fault : Bool
  multi : Bool
  faultRecord : Option FaultRecord
  noticeEn : Bool
  lostEn : Bool
  faultEn : Bool
  deriving DecidableEq, Repr

/-! ## Time Base -/

/-- What the TB holds beside the countdowns (R79). -/
structure TimeBase where
  run : Bool
  prescale : BitVec 16
  prescalerCount : Nat
  now : BitVec 32
  deriving DecidableEq, Repr

/-! ## Reclaim Engine -/

/-- The attach state of an agent (R112). -/
inductive AttachState where
  | attached
  | detaching
  | detached
  deriving DecidableEq, Repr

/-- What the RE holds for one agent (R112): the attach state and the recorded line level. -/
structure AgentLine where
  attach : AttachState
  asserted : Bool
  deriving DecidableEq, Repr

/-- Whether a job ends with the clients READY or with the agent DETACHED (R112). -/
inductive Scope where
  | client
  | agent
  deriving DecidableEq, Repr

/-- A subset of an agent's slots. -/
abbrev SlotSet := Vector Bool 4

/-- A job record (R112); its state, ACTIVE or WAITING, is where it stands in `State`. -/
structure Job where
  agent : AgentId
  set : SlotSet
  named : SlotSet
  scope : Scope
  deriving DecidableEq, Repr

/-- The three phases of a client in the ACTIVE job (R112). -/
inductive JobPhase where
  | wait
  | hold
  | flush
  deriving DecidableEq, Repr

/-- What the next step of the ACTIVE job is (R112): a phase of a client, or the final step. -/
inductive Position where
  | step (slot : Slot) (phase : JobPhase)
  | final
  deriving DecidableEq, Repr

/-- The ACTIVE job with its position (R112). -/
structure ActiveJob where
  job : Job
  position : Position
  deriving DecidableEq, Repr

/-! ## Supervisor Unit -/

/-- The configuration of an agent (R156): bit d of the mask stands for domain d. -/
structure AgentConfig where
  mask : BitVec 4
  autoAttach : Bool
  deriving DecidableEq, Repr

/-- The staging register CFG_A (R151): the action field keeps any of its four encodings. -/
structure StagedA where
  ceiling : Priority
  domain : Domain
  sharedOk : Bool
  renewable : Bool
  action : BitVec 2
  deriving DecidableEq, Repr

/-- The staging register CFG_B (R151). -/
structure StagedB where
  budget : BitVec 16
  grace : BitVec 16
  deriving DecidableEq, Repr

/-- The supervisor results (R168). -/
inductive SupResult where
  | none
  | done
  | doneEmpty
  | badCommand
  | notOffline
  | notDead
  | busy
  | already
  | lineHeld
  deriving DecidableEq, Repr

/-- SRESULT (R150): the result, the command code as written and the number as used. -/
structure SResult where
  result : SupResult
  command : BitVec 4
  number : Fin 64
  deriving DecidableEq, Repr

/-- The denial record (R146). -/
structure DenialRecord where
  agent : AgentId
  slot : Slot
  lock : LockId
  domain : Domain
  deriving DecidableEq, Repr

/-- The sweep (R74). -/
structure Sweep where
  running : Bool
  position : LockId
  again : Bool
  deriving DecidableEq, Repr

/-- The flags of SFLAGS (R143), or the enables of the same causes in SEN (R145). -/
structure SupFlags where
  accessErr : Bool
  denial : Bool
  lockDead : Bool
  jobDone : Bool
  sweepDone : Bool
  deriving DecidableEq, Repr

/-- What the SU holds. -/
structure Supervisor where
  gate : Fin 17
  sweep : Sweep
  agents : Vector AgentConfig 8
  cfgA : StagedA
  cfgB : StagedB
  inspect : Vector Word 4
  sresult : SResult
  flags : SupFlags
  enables : SupFlags
  poolLowEn : Bool
  denialRecord : Option DenialRecord
  poolLowThreshold : Fin 97
  deriving DecidableEq, Repr

/-! ## The whole part -/

/-- The state of the part. `pool` lists the hold records in use: a record that becomes a hold goes to
its end, so the holds of one client stand in acquisition order (R22). `busData` is the read data of
the last read access (the bus slave port of spec/00_scope.md section 1.4; DESIGN CHOICE, log 3).
`pending` is the model's own queue of commands, first in, first out (log 1). -/
structure State where
  locks : Vector LockRecord 64
  pool : List PoolRecord
  clients : Vector Client 32
  windows : Vector Window 8
  notices : Vector AgentNotices 8
  tb : TimeBase
  lines : Vector AgentLine 8
  activeJob : Option ActiveJob
  waitingJobs : List Job
  su : Supervisor
  busData : Word
  pending : List Instr
  deriving DecidableEq, Repr

/-- The reasons a step could stop with a fault: the part has none. Every bus access is answered with a
normal completion (R127), and misuse only sets ACCESS_ERR (R128). -/
inductive Fault where
  deriving DecidableEq, Repr

/-- The reasons a step can be refused. -/
inductive Refusal where
  /-- Raised by an arm of `exec` whose command has no meaning yet (none does). Safe: the model stops
  where the hardware goes on. -/
  | notModelled (mnemonic : String)
  deriving DecidableEq, Repr

/-! ## Power-on values -/

/-- The power-on lock record (R1). -/
def LockRecord.powerOn : LockRecord where
  state := .offline
  config :=
    { ceiling := 15, domain := 0, sharedOk := false, renewable := true,
      budget := 0, action := .warn, grace := 0 }
  queue := []
  generation := 0
  cleanPending := false

/-- The result word NONE (R27, R164). -/
def ResultWord.noResult : ResultWord where
  result := .none
  slot := 0
  lock := 0
  generation := 0

/-- The power-on context of a client whose agent reset input is deasserted (R19). -/
def Client.powerOn : Client where
  state := .ready
  wait := none
  waitLimit := 0
  lastWaitEnd := .none
  revoked := Vector.replicate 64 false
  result := ResultWord.noResult

/-- The power-on NU state of an agent (R96, R148). -/
def AgentNotices.powerOn : AgentNotices where
  queue := []
  reserved := 0
  lost := false
  lostWarned := false
  lostRevoked := false
  threshold := 1
  fault := false
  multi := false
  faultRecord := none
  noticeEn := false
  lostEn := false
  faultEn := false

/-- Flags or enables, all clear (R148). -/
def SupFlags.clear : SupFlags where
  accessErr := false
  denial := false
  lockDead := false
  jobDone := false
  sweepDone := false

/-- The power-on state of the SU (R159). -/
def Supervisor.powerOn : Supervisor where
  gate := 16
  sweep := { running := false, position := 0, again := false }
  agents := Vector.replicate 8 { mask := 1, autoAttach := true }
  cfgA := { ceiling := 15, domain := 0, sharedOk := false, renewable := true, action := 0 }
  cfgB := { budget := 0, grace := 0 }
  inspect := Vector.replicate 4 0
  sresult := { result := .none, command := 0, number := 0 }
  flags := SupFlags.clear
  enables := SupFlags.clear
  poolLowEn := false
  denialRecord := none
  poolLowThreshold := 0

/-- The part right after power-on reset (R159), with every agent reset input deasserted: the levels at
power-on are the board's, so this is a DESIGN CHOICE (log 2, unsafe). POWER_ON_RESET takes any
levels. -/
def State.reset : State where
  locks := Vector.replicate 64 LockRecord.powerOn
  pool := []
  clients := Vector.replicate 32 Client.powerOn
  windows := Vector.replicate 8 { slot := 0, priority := 0 }
  notices := Vector.replicate 8 AgentNotices.powerOn
  tb := { run := false, prescale := 0, prescalerCount := 0, now := 0 }
  lines := Vector.replicate 8 { attach := .attached, asserted := false }
  activeJob := none
  waitingJobs := []
  su := Supervisor.powerOn
  busData := 0
  pending := []

end Sys2Proof.Machine
end

