-- ==== Sys2Proof/Machine/Formats.lean ====
section
/-! DEFINITION. Codes and word layouts (spec/11): how a result, a notice, a fault or denial record, a
supervisor result and a configuration are laid out in a 32-bit word. A word is written as the
concatenation of its fields, most significant first. -/

namespace Sys2Proof.Machine

/-- A number as a field of `w` bits. -/
def bits (w n : Nat) : BitVec w :=
  BitVec.ofNat w n

/-- A condition as a one-bit field. -/
def flag (b : Bool) : BitVec 1 :=
  BitVec.ofBool b

/-- Bits `lo + len - 1 : lo` of a written word, as a number (R160). -/
def fieldOf (w : Word) (lo len : Nat) : Nat :=
  (w.extractLsb' lo len).toNat

/-- A field limited to a greatest value (R160). -/
def clamp (limit v : Nat) : Fin (limit + 1) :=
  ⟨min v limit, by omega⟩

/-- The result codes (R164). -/
def Result.code : Result → BitVec 8
  | .none => 0x00
  | .ok => 0x01
  | .okSuspect => 0x02
  | .waiting => 0x03
  | .busy => 0x04
  | .gated => 0x05
  | .noSpace => 0x06
  | .queueFull => 0x07
  | .dead => 0x08
  | .detaching => 0x09
  | .released => 0x0A
  | .releasedDead => 0x0B
  | .revokedEarlier => 0x0C
  | .cancelled => 0x0D
  | .tooLate => 0x0E
  | .renewed => 0x0F
  | .cleaned => 0x10
  | .mailed => 0x11
  | .targetOff => 0x12
  | .badOpcode => 0x81
  | .clientOff => 0x82
  | .clientWaiting => 0x83
  | .lockOffline => 0x84
  | .denied => 0x85
  | .selfHeld => 0x86
  | .noShared => 0x87
  | .holdLimit => 0x88
  | .order => 0x89
  | .notHolder => 0x8A
  | .notWaiting => 0x8B
  | .notRenewable => 0x8C
  | .notSuspect => 0x8D

/-- A result is a fault when bit 31 of its word is 1 (R164). -/
def Result.isFault (r : Result) : Bool :=
  r.code.msb

/-- The result word (R164). -/
def ResultWord.encode (r : ResultWord) : Word :=
  r.result.code ++ bits 2 r.slot ++ bits 6 r.lock ++ r.generation

/-- The mode bit of a command word or a notice (R163, R165). -/
def modeBit : Mode → BitVec 1
  | .exclusive => 0
  | .shared => 1

/-- The kind bit of a command word (R163). -/
def kindBit : Kind → BitVec 1
  | .tryOnce => 0
  | .wait => 1

/-- The reason bit of a WAIT_ENDED notice (R165). -/
def WaitEndReason.bit : WaitEndReason → BitVec 1
  | .expired => 0
  | .dead => 1

/-- The notice word (R165): bits 31:29 are the kind. -/
def Notice.encode : Notice → Word
  | .granted slot lock mode suspect generation =>
    bits 3 1 ++ bits 3 0 ++ flag suspect ++ modeBit mode ++ bits 2 slot ++ bits 6 lock ++ generation
  | .waitEnded slot lock reason =>
    bits 3 2 ++ bits 2 0 ++ reason.bit ++ bits 2 0 ++ bits 2 slot ++ bits 6 lock ++ bits 16 0
  | .warned slot lock generation =>
    bits 3 3 ++ bits 5 0 ++ bits 2 slot ++ bits 6 lock ++ generation
  | .revoked slot lock generation =>
    bits 3 4 ++ bits 5 0 ++ bits 2 slot ++ bits 6 lock ++ generation
  | .mail sender payload =>
    bits 3 5 ++ bits 8 0 ++ bits 5 sender ++ payload

/-- The word a read of a queue's head gives: EMPTY, all zero, when there is none (R104, R165). -/
def encodeHead : Option Notice → Word
  | none => 0
  | some n => n.encode

/-- FAULTREC (R167): the fault code is the result code less 80H. -/
def encodeFaultRecord : Option FaultRecord → Word
  | none => 0
  | some r => (r.fault.code.extractLsb' 0 4) ++ bits 3 0 ++ flag r.window ++ r.command

/-- DENIALREC (R167). -/
def encodeDenialRecord : Option DenialRecord → Word
  | none => 0
  | some r =>
    flag true ++ bits 13 0 ++ bits 2 r.domain ++ bits 2 0 ++ bits 6 r.lock ++ bits 2 0 ++ bits 2 r.slot
      ++ bits 1 0 ++ bits 3 r.agent

/-- The supervisor result codes (R168). -/
def SupResult.code : SupResult → BitVec 4
  | .none => 0
  | .done => 1
  | .doneEmpty => 2
  | .badCommand => 3
  | .notOffline => 4
  | .notDead => 5
  | .busy => 6
  | .already => 7
  | .lineHeld => 8

/-- SRESULT (R168). -/
def SResult.encode (r : SResult) : Word :=
  bits 10 0 ++ bits 6 r.number ++ bits 4 0 ++ r.command ++ bits 4 0 ++ r.result.code

/-- The client state codes (R166). -/
def ClientState.code : ClientState → BitVec 2
  | .off => 0
  | .ready => 1
  | .waiting => 2
  | .detaching => 3

/-- The lock state codes of a snapshot (R170). -/
def LockState.code : LockState → BitVec 3
  | .offline => 0
  | .free => 1
  | .held => 2
  | .shared => 3
  | .suspect => 4
  | .orphaned => 5
  | .dead => 6

/-- The attach state codes of AGSTATE and AINFO (R162). -/
def AttachState.code : AttachState → BitVec 2
  | .attached => 0
  | .detaching => 1
  | .detached => 2

/-- The action codes (R169). -/
def Action.code : Action → BitVec 2
  | .warn => 0
  | .revoke => 1
  | .warnRevoke => 2

/-- The action SETCFG stores for a staged encoding (R2): the fourth encoding is stored as WARN. -/
def Action.ofCode (a : BitVec 2) : Action :=
  if a = 1 then .revoke else if a = 2 then .warnRevoke else .warn

/-- The phase bit of a lock snapshot (R170). -/
def Phase.bit : Phase → BitVec 1
  | .budget => 0
  | .grace => 1

/-- Bits 23:0 of the CFG_A layout (R169). -/
def encodeCfgA (ceiling : Priority) (domain : Domain) (sharedOk renewable : Bool)
    (action : BitVec 2) : BitVec 24 :=
  bits 10 0 ++ action ++ bits 2 0 ++ flag renewable ++ flag sharedOk ++ bits 2 0 ++ bits 2 domain ++ bits 4 ceiling

/-- The CFG_B layout (R162, R169). -/
def encodeCfgB (budget grace : BitVec 16) : Word :=
  grace ++ budget

/-- The fields a word written to CFG_A stores (R151, R169). -/
def StagedA.ofWord (w : Word) : StagedA where
  ceiling := Fin.ofNat 16 (fieldOf w 0 4)
  domain := Fin.ofNat 4 (fieldOf w 4 2)
  sharedOk := w.getLsbD 8
  renewable := w.getLsbD 9
  action := w.extractLsb' 12 2

/-- The fields a word written to CFG_B stores (R151, R162). -/
def StagedB.ofWord (w : Word) : StagedB where
  budget := w.extractLsb' 0 16
  grace := w.extractLsb' 16 16

/-- The configuration SETCFG copies into a lock (R2). -/
def stagedConfig (a : StagedA) (b : StagedB) : LockConfig where
  ceiling := a.ceiling
  domain := a.domain
  sharedOk := a.sharedOk
  renewable := a.renewable
  budget := b.budget
  action := Action.ofCode a.action
  grace := b.grace

/-- Flags or enables at the positions of SFLAGS and SEN (R162); bit 8 is the POOL_LOW position. -/
def encodeSupFlags (f : SupFlags) (poolLow : Bool) : Word :=
  bits 23 0 ++ flag poolLow ++ bits 3 0 ++ flag f.sweepDone ++ flag f.jobDone ++ flag f.lockDead ++ flag f.denial
    ++ flag f.accessErr

/-- The five flag positions of a word written to SFLAGS or SEN (R162). -/
def SupFlags.ofWord (w : Word) : SupFlags where
  accessErr := w.getLsbD 0
  denial := w.getLsbD 1
  lockDead := w.getLsbD 2
  jobDone := w.getLsbD 3
  sweepDone := w.getLsbD 4

/-- A slot set as four bits, bit s for slot s (R162). -/
def encodeSlots (set : SlotSet) : BitVec 4 :=
  flag (set.get 3) ++ flag (set.get 2) ++ flag (set.get 1) ++ flag (set.get 0)

end Sys2Proof.Machine
end

