-- ==== Sys2Proof/Machine/Operands.lean ====
section
/-! DEFINITION. The operands of commands: the command words of ACMD (R163), the client a slot names,
the number field of SCMD (R149, R168), and where a command came from. -/

namespace Sys2Proof.Machine

/-- The global client number of a slot of an agent (spec/02: agent × 4 + slot). -/
def clientOf (a : AgentId) (sl : Slot) : ClientId :=
  ⟨a.val * 4 + sl.val, by omega⟩

/-- The agent of a client. -/
def agentOf (c : ClientId) : AgentId :=
  ⟨c.val / 4, by omega⟩

/-- The slot of a client. -/
def slotOf (c : ClientId) : Slot :=
  ⟨c.val % 4, by omega⟩

/-- The opcodes of ACMD (R163). -/
def opAcquire : BitVec 3 := 1
def opRelease : BitVec 3 := 2
def opCancel : BitVec 3 := 3
def opRenew : BitVec 3 := 4
def opMarkClean : BitVec 3 := 5
def opMail : BitVec 3 := 6

/-- The ACMD word of an ACQUIRE (R163). -/
def acquireWord (sl : Slot) (n : LockId) (m : Mode) (k : Kind) (p : Priority) (unused : BitVec 15) : Word :=
  unused ++ bits 4 p ++ kindBit k ++ modeBit m ++ bits 6 n ++ bits 2 sl ++ opAcquire

/-- The ACMD word of a command whose only operand is a lock: RELEASE, RENEW, MARK_CLEAN (R163). -/
def lockWord (opcode : BitVec 3) (sl : Slot) (n : LockId) (unused : BitVec 21) : Word :=
  unused ++ bits 6 n ++ bits 2 sl ++ opcode

/-- The ACMD word of a command without operands: CANCEL, and an undefined opcode (R163). -/
def bareWord (opcode : BitVec 3) (sl : Slot) (unused : BitVec 27) : Word :=
  unused ++ bits 2 sl ++ opcode

/-- The ACMD word of a MAIL (R163). -/
def mailWord (sl : Slot) (target : AgentId) (payload : BitVec 16) (unused : BitVec 8) : Word :=
  unused ++ payload ++ bits 3 target ++ bits 2 sl ++ opMail

/-- Where an agent command came from: its page, the slot it acts for, whether it is a claim-window
access, and bits 23:0 of the command word the fault record keeps (R138, R167). -/
structure Origin where
  agent : AgentId
  slot : Slot
  window : Bool
  command : BitVec 24
  deriving DecidableEq, Repr

/-- The client a command acts for (R36). -/
def Origin.client (o : Origin) : ClientId :=
  clientOf o.agent o.slot

/-- A command written to ACMD of page `a`; bits 31:24 of the word are not kept (R167). -/
def Origin.acmd (a : AgentId) (sl : Slot) (w : Word) : Origin where
  agent := a
  slot := sl
  window := false
  command := w.extractLsb' 0 24

/-- A read of CLAIMn: the word that ACMD would carry for the same ACQUIRE (R138). -/
def Origin.claimRead (a : AgentId) (win : Window) (n : LockId) : Origin where
  agent := a
  slot := win.slot
  window := true
  command := (acquireWord win.slot n .exclusive .tryOnce win.priority 0).extractLsb' 0 24

/-- A write of CLAIMn: the word that ACMD would carry for the same RELEASE (R138). -/
def Origin.claimWrite (a : AgentId) (win : Window) (n : LockId) : Origin where
  agent := a
  slot := win.slot
  window := true
  command := (lockWord opRelease win.slot n 0).extractLsb' 0 24

/-- The client a supervisor command's number names: modulo 32 (R149). -/
def clientOfNumber (number : Fin 64) : ClientId :=
  ⟨number.val % 32, by omega⟩

/-- The agent a supervisor command's number names: modulo 8 (R149). -/
def agentOfNumber (number : Fin 64) : AgentId :=
  ⟨number.val % 8, by omega⟩

/-- A client number as SRESULT's number field (R150). -/
def numberOfClient (c : ClientId) : Fin 64 :=
  ⟨c.val, by omega⟩

/-- An agent number as SRESULT's number field (R150). -/
def numberOfAgent (a : AgentId) : Fin 64 :=
  ⟨a.val, by omega⟩

end Sys2Proof.Machine
end

