-- ==== Sys2Proof/Machine/AddressMap.lean ====
section
/-! DEFINITION. The register window (R127, R160 to R162): which register an address of the 16 KiB region
falls on, or none where it is undecoded, and which accesses are misuse (R128). -/

namespace Sys2Proof.Machine

/-- The registers of an agent page (R161). -/
inductive AgentReg where
  | claim (lock : LockId)
  | acmd
  | result (slot : Slot)
  | waitlim (slot : Slot)
  | cstat (slot : Slot)
  | notice
  | npeek
  | nqstat
  | nqcfg
  | aflags
  | aen
  | faultrec
  | wincfg
  | ainfo
  deriving DecidableEq, Repr

/-- The registers of the control page (R162). -/
inductive ControlReg where
  | scmd
  | sresult
  | cfgA
  | cfgB
  | inspect (index : Fin 4)
  | gate
  | sweepstat
  | tbctrl
  | tbnow
  | poolstat
  | jobstat
  | agcfg (agent : AgentId)
  | agstate
  | linestat
  | sflags
  | sen
  | denialrec
  deriving DecidableEq, Repr

/-- A register of the window. -/
inductive RegName where
  | agent (page : AgentId) (reg : AgentReg)
  | control (reg : ControlReg)
  deriving DecidableEq, Repr

/-- The register at a byte offset of an agent page (R127, R161); bits 1:0 of the offset do not select. -/
def agentRegAt (offset : Nat) : Option AgentReg :=
  let w := offset / 4
  if w < 64 then some (.claim (Fin.ofNat 64 w))
  else if w = 0x100 / 4 then some .acmd
  else if 0x110 / 4 ≤ w ∧ w ≤ 0x11C / 4 then some (.result (Fin.ofNat 4 (w - 0x110 / 4)))
  else if 0x120 / 4 ≤ w ∧ w ≤ 0x12C / 4 then some (.waitlim (Fin.ofNat 4 (w - 0x120 / 4)))
  else if 0x130 / 4 ≤ w ∧ w ≤ 0x13C / 4 then some (.cstat (Fin.ofNat 4 (w - 0x130 / 4)))
  else if w = 0x140 / 4 then some .notice
  else if w = 0x144 / 4 then some .npeek
  else if w = 0x148 / 4 then some .nqstat
  else if w = 0x14C / 4 then some .nqcfg
  else if w = 0x150 / 4 then some .aflags
  else if w = 0x154 / 4 then some .aen
  else if w = 0x158 / 4 then some .faultrec
  else if w = 0x160 / 4 then some .wincfg
  else if w = 0x164 / 4 then some .ainfo
  else none

/-- The register at a byte offset of the control page (R162); bits 1:0 of the offset do not select. -/
def controlRegAt (offset : Nat) : Option ControlReg :=
  let w := offset / 4
  if w = 0x000 / 4 then some .scmd
  else if w = 0x004 / 4 then some .sresult
  else if w = 0x008 / 4 then some .cfgA
  else if w = 0x00C / 4 then some .cfgB
  else if 0x010 / 4 ≤ w ∧ w ≤ 0x01C / 4 then some (.inspect (Fin.ofNat 4 (w - 0x010 / 4)))
  else if w = 0x020 / 4 then some .gate
  else if w = 0x024 / 4 then some .sweepstat
  else if w = 0x028 / 4 then some .tbctrl
  else if w = 0x02C / 4 then some .tbnow
  else if w = 0x030 / 4 then some .poolstat
  else if w = 0x034 / 4 then some .jobstat
  else if 0x040 / 4 ≤ w ∧ w ≤ 0x05C / 4 then some (.agcfg (Fin.ofNat 8 (w - 0x040 / 4)))
  else if w = 0x060 / 4 then some .agstate
  else if w = 0x064 / 4 then some .linestat
  else if w = 0x070 / 4 then some .sflags
  else if w = 0x074 / 4 then some .sen
  else if w = 0x078 / 4 then some .denialrec
  else none

/-- The register an address of the region falls on (R127): pages of 1 KiB, agent pages 0–7, then the
control page; the rest of the region is undecoded. -/
def regAt (address : BitVec 14) : Option RegName :=
  let page := address.toNat / 0x400
  let offset := address.toNat % 0x400
  if page < 8 then (agentRegAt offset).map (.agent (Fin.ofNat 8 page))
  else if page = 8 then (controlRegAt offset).map .control
  else none

/-- The offset of a register in its agent page (R161). -/
def AgentReg.offset : AgentReg → Nat
  | .claim n => 4 * n
  | .acmd => 0x100
  | .result sl => 0x110 + 4 * sl
  | .waitlim sl => 0x120 + 4 * sl
  | .cstat sl => 0x130 + 4 * sl
  | .notice => 0x140
  | .npeek => 0x144
  | .nqstat => 0x148
  | .nqcfg => 0x14C
  | .aflags => 0x150
  | .aen => 0x154
  | .faultrec => 0x158
  | .wincfg => 0x160
  | .ainfo => 0x164

/-- The offset of a register in the control page (R162). -/
def ControlReg.offset : ControlReg → Nat
  | .scmd => 0x000
  | .sresult => 0x004
  | .cfgA => 0x008
  | .cfgB => 0x00C
  | .inspect i => 0x010 + 4 * i
  | .gate => 0x020
  | .sweepstat => 0x024
  | .tbctrl => 0x028
  | .tbnow => 0x02C
  | .poolstat => 0x030
  | .jobstat => 0x034
  | .agcfg a => 0x040 + 4 * a
  | .agstate => 0x060
  | .linestat => 0x064
  | .sflags => 0x070
  | .sen => 0x074
  | .denialrec => 0x078

/-- The byte address of a register from the base of the region (R127, R161, R162). -/
def RegName.address : RegName → BitVec 14
  | .agent a r => BitVec.ofNat 14 (0x400 * a + r.offset)
  | .control r => BitVec.ofNat 14 (0x2000 + r.offset)

/-- The access is misuse (R128): sub-word anywhere, or a word access to an undecoded offset. -/
def isMisuse (acc : BusAccess) : Bool :=
  acc.size != .word || (regAt acc.address).isNone

end Sys2Proof.Machine
end

