-- ==== Sys2Proof/WellFormed.lean ====
section
/-! DEFINITION. Which terms of `Instr` are commands of their row. Operand ranges are in the types; what is
left is that an undefined opcode or command code is undefined (R163, R168), that a misused access
is misuse (R128), and that a write-one-to-clear command writes a one to its flag (R139, R144). -/

namespace Sys2Proof

/-- The term is a command of its row. -/
def WellFormed : Instr → Bool
  | .badOpcode _ _ opcode _ => opcode == 0 || opcode == 7
  | .badCommand code _ => code == 0 || decide (10 < code.toNat)
  | .accessMisuse acc => Machine.isMisuse acc
  | .clearLost _ w => w.getLsbD 0
  | .clearFault _ w => w.getLsbD 1
  | .clearMulti _ w => w.getLsbD 2 && !w.getLsbD 1
  | .clearAccessErr w => w.getLsbD 0
  | .clearDenial w => w.getLsbD 1
  | .clearLockDead w => w.getLsbD 2
  | .clearJobDone w => w.getLsbD 3
  | .clearSweepDone w => w.getLsbD 4
  | _ => true

end Sys2Proof
end

