-- ==== Sys2Proof/Decode.lean ====
section
/-! DEFINITION. Which command a bus access is (R127 to R129, R135, R136, R160, R163, R168), and the table
decoder. No row of spec/opcode_table.json gives bits, so the table decoder answers none. -/

namespace Sys2Proof

open Machine

/-- No row of the table gives bits of its own: none of them is spelled by a word alone. -/
def decodeTableWord (_nbits _w : Nat) : Option Instr :=
  none

/-- A word written to ACMD of page `a` (R129, R163). -/
def decodeAcmd (a : AgentId) (w : Word) : Instr :=
  let slot : Slot := Fin.ofNat 4 (fieldOf w 3 2)
  let lock : LockId := Fin.ofNat 64 (fieldOf w 5 6)
  let opcode := w.extractLsb' 0 3
  if opcode = opAcquire then
    .acquire a slot lock (if w.getLsbD 11 then .shared else .exclusive) (if w.getLsbD 12 then .wait else .tryOnce)
      (Fin.ofNat 16 (fieldOf w 13 4)) (w.extractLsb' 17 15)
  else if opcode = opRelease then .release a slot lock (w.extractLsb' 11 21)
  else if opcode = opCancel then .cancel a slot (w.extractLsb' 5 27)
  else if opcode = opRenew then .renew a slot lock (w.extractLsb' 11 21)
  else if opcode = opMarkClean then .markClean a slot lock (w.extractLsb' 11 21)
  else if opcode = opMail then
    .mail a slot (Fin.ofNat 8 (fieldOf w 5 3)) (w.extractLsb' 8 16) (w.extractLsb' 24 8)
  else .badOpcode a slot opcode (w.extractLsb' 5 27)

/-- The ACMD word of an agent command (R163), or none for a command that is not written to ACMD. -/
def encodeAcmd : Instr → Option Word
  | .acquire _ sl n m k p unused => some (acquireWord sl n m k p unused)
  | .release _ sl n unused => some (lockWord opRelease sl n unused)
  | .cancel _ sl unused => some (bareWord opCancel sl unused)
  | .renew _ sl n unused => some (lockWord opRenew sl n unused)
  | .markClean _ sl n unused => some (lockWord opMarkClean sl n unused)
  | .mail _ sl target payload unused => some (mailWord sl target payload unused)
  | .badOpcode _ sl opcode unused => some (bareWord opcode sl unused)
  | _ => none

/-- A word written to SCMD (R149, R168). -/
def decodeScmd (w : Word) : Instr :=
  let number : Fin 64 := Fin.ofNat 64 (fieldOf w 8 6)
  let code := w.extractLsb' 0 4
  if code = 1 then .setcfg number
  else if code = 2 then .online number
  else if code = 3 then .offline number
  else if code = 4 then .restore number
  else if code = 5 then .inspectLock number
  else if code = 6 then .inspectClient number
  else if code = 7 then .detachClient number
  else if code = 8 then .detachAgent number
  else if code = 9 then .attach number
  else if code = 10 then .softReset number
  else .badCommand code number

/-- The SCMD word with a command code and a number (R168), every other bit 0. -/
def scmdWord (code : BitVec 4) (number : Nat) : Word :=
  bits 18 0 ++ bits 6 number ++ bits 4 0 ++ code

/-- The SCMD word of a supervisor command (R168), or none for a command that is not written to SCMD. -/
def encodeScmd : Instr → Option Word
  | .setcfg n => some (scmdWord 1 n)
  | .online n => some (scmdWord 2 n)
  | .offline n => some (scmdWord 3 n)
  | .restore n => some (scmdWord 4 n)
  | .inspectLock n => some (scmdWord 5 n)
  | .inspectClient number => some (scmdWord 6 number)
  | .detachClient number => some (scmdWord 7 number)
  | .detachAgent number => some (scmdWord 8 number)
  | .attach number => some (scmdWord 9 number)
  | .softReset number => some (scmdWord 10 number)
  | .badCommand code number => some (scmdWord code number)
  | _ => none

/-- A word written to AFLAGS of page `a` (R139): the row of the lowest flag it clears; one write clears
every flag written as 1 whichever row names it. A word with no flag set changes nothing and is no
command. -/
def decodeAflags (a : AgentId) (w : Word) : Option Instr :=
  if w.getLsbD 0 then some (.clearLost a w)
  else if w.getLsbD 1 then some (.clearFault a w)
  else if w.getLsbD 2 then some (.clearMulti a w)
  else none

/-- A word written to SFLAGS (R144), as for AFLAGS. -/
def decodeSflags (w : Word) : Option Instr :=
  if w.getLsbD 0 then some (.clearAccessErr w)
  else if w.getLsbD 1 then some (.clearDenial w)
  else if w.getLsbD 2 then some (.clearLockDead w)
  else if w.getLsbD 3 then some (.clearJobDone w)
  else if w.getLsbD 4 then some (.clearSweepDone w)
  else none

/-- A word written to a register of agent page `a` (R127, R161). -/
def decodeAgentWrite (a : AgentId) (w : Word) : AgentReg → Option Instr
  | .claim n => some (.claimWrite a n w)
  | .acmd => some (decodeAcmd a w)
  | .result sl => some (.registerWrite (.readOnly (.result a sl)) w)
  | .waitlim sl => some (.registerWrite (.waitlim a sl) w)
  | .cstat sl => some (.registerWrite (.readOnly (.cstat a sl)) w)
  | .notice => some (.registerWrite (.readOnly (.notice a)) w)
  | .npeek => some (.registerWrite (.readOnly (.npeek a)) w)
  | .nqstat => some (.registerWrite (.readOnly (.nqstat a)) w)
  | .nqcfg => some (.registerWrite (.nqcfg a) w)
  | .aflags => decodeAflags a w
  | .aen => some (.registerWrite (.aen a) w)
  | .faultrec => some (.registerWrite (.readOnly (.faultrec a)) w)
  | .wincfg => some (.registerWrite (.wincfg a) w)
  | .ainfo => some (.registerWrite (.readOnly (.ainfo a)) w)

/-- A word written to a register of the control page (R162). -/
def decodeControlWrite (w : Word) : ControlReg → Option Instr
  | .scmd => some (decodeScmd w)
  | .sresult => some (.registerWrite (.readOnly .sresult) w)
  | .cfgA => some (.registerWrite .cfgA w)
  | .cfgB => some (.registerWrite .cfgB w)
  | .inspect i => some (.registerWrite (.readOnly (.inspect i)) w)
  | .gate => some (.gateWrite w)
  | .sweepstat => some (.registerWrite (.readOnly .sweepstat) w)
  | .tbctrl => some (.tbctrlWrite w)
  | .tbnow => some (.tbnowWrite w)
  | .poolstat => some (.poolstatWrite w)
  | .jobstat => some (.registerWrite (.readOnly .jobstat) w)
  | .agcfg a => some (.registerWrite (.agcfg a) w)
  | .agstate => some (.registerWrite (.readOnly .agstate) w)
  | .linestat => some (.registerWrite (.readOnly .linestat) w)
  | .sflags => decodeSflags w
  | .sen => some (.registerWrite .sen w)
  | .denialrec => some (.registerWrite (.readOnly .denialrec) w)

/-- The command a word read is, where the read is a command (R104, R135); any other word read only
returns `State.readReg`. -/
def decodeRead : RegName → Option Instr
  | .agent a (.claim n) => some (.claimRead a n)
  | .agent a .notice => some (.noticePop a)
  | _ => none

/-- The command a bus access of the region is (R127, R128), or none when it changes nothing. -/
def decodeAccess (acc : BusAccess) : Option Instr :=
  if isMisuse acc then some (.accessMisuse acc)
  else
    match regAt acc.address, acc.write with
    | none, _ => none
    | some r, none => decodeRead r
    | some (.agent a r), some w => decodeAgentWrite a w r
    | some (.control r), some w => decodeControlWrite w r

end Sys2Proof
end

