-- ==== Sys2Proof/Machine/Ops.lean ====
section
/-! DEFINITION. The named operations over the state: one accessor and one update for each indexed part,
the views the spec derives (held list, holders, free count, rank, mark, client ceiling), and the
small operations of the hold pool, the Client Table, the Notice Unit and the flags that every
command is built from. -/

namespace Sys2Proof.Machine

/-! ## Accessors and updates -/

def State.lock (s : State) (n : LockId) : LockRecord :=
  s.locks.get n

def State.client (s : State) (c : ClientId) : Client :=
  s.clients.get c

def State.window (s : State) (a : AgentId) : Window :=
  s.windows.get a

def State.nu (s : State) (a : AgentId) : AgentNotices :=
  s.notices.get a

def State.line (s : State) (a : AgentId) : AgentLine :=
  s.lines.get a

def State.agentConfig (s : State) (a : AgentId) : AgentConfig :=
  s.su.agents.get a

def State.setLock (s : State) (n : LockId) (r : LockRecord) : State :=
  { s with locks := s.locks.set n r }

def State.setPool (s : State) (p : List PoolRecord) : State :=
  { s with pool := p }

def State.setClient (s : State) (c : ClientId) (r : Client) : State :=
  { s with clients := s.clients.set c r }

def State.setWindow (s : State) (a : AgentId) (w : Window) : State :=
  { s with windows := s.windows.set a w }

def State.setNu (s : State) (a : AgentId) (r : AgentNotices) : State :=
  { s with notices := s.notices.set a r }

def State.setTb (s : State) (t : TimeBase) : State :=
  { s with tb := t }

def State.setLine (s : State) (a : AgentId) (r : AgentLine) : State :=
  { s with lines := s.lines.set a r }

def State.setActiveJob (s : State) (j : Option ActiveJob) : State :=
  { s with activeJob := j }

def State.setWaitingJobs (s : State) (js : List Job) : State :=
  { s with waitingJobs := js }

def State.setSu (s : State) (u : Supervisor) : State :=
  { s with su := u }

def State.setBusData (s : State) (w : Word) : State :=
  { s with busData := w }

/-- One change made to every lock record in one happening. -/
def State.mapLocks (s : State) (f : LockRecord → LockRecord) : State :=
  { s with locks := s.locks.map f }

/-- One change made to every client context in one happening. -/
def State.mapClients (s : State) (f : ClientId → Client → Client) : State :=
  { s with clients := Vector.ofFn fun c => f c (s.clients.get c) }

/-- One change made to every agent's notice state in one happening. -/
def State.mapNu (s : State) (f : AgentNotices → AgentNotices) : State :=
  { s with notices := s.notices.map f }

/-- One change made to every agent's attach state and line in one happening. -/
def State.mapLines (s : State) (f : AgentId → AgentLine → AgentLine) : State :=
  { s with lines := Vector.ofFn fun a => f a (s.lines.get a) }

/-! ## The hold pool (R29 to R33) -/

/-- The record is a hold of client `c` on lock `n`. -/
def PoolRecord.isHoldOf (c : ClientId) (n : LockId) : PoolRecord → Bool
  | .reservation _ _ => false
  | .hold h => h.client == c && h.lock == n

/-- The record is the reservation of client `c` for lock `n`: the LE finds it by these two (R29). -/
def PoolRecord.isReservationOf (c : ClientId) (n : LockId) : PoolRecord → Bool
  | .reservation c' n' => c' == c && n' == n
  | .hold _ => false

/-- The record as a hold, if it is one. -/
def PoolRecord.hold? : PoolRecord → Option Hold
  | .reservation _ _ => none
  | .hold h => some h

/-- Every hold, in the order of the grants. -/
def State.holds (s : State) : List Hold :=
  s.pool.filterMap PoolRecord.hold?

/-- The held list of a client, oldest first (R22). -/
def State.heldList (s : State) (c : ClientId) : List Hold :=
  s.holds.filter fun h => h.client == c

/-- The holders set of a lock (R1), in the order of the grants. -/
def State.holders (s : State) (n : LockId) : List Hold :=
  s.holds.filter fun h => h.lock == n

/-- The client's hold on the lock, if it has one. -/
def State.findHold (s : State) (c : ClientId) (n : LockId) : Option Hold :=
  s.holds.find? fun h => h.client == c && h.lock == n

/-- The free count: the records of the pool not in use (R30). -/
def State.freeCount (s : State) : Nat :=
  Config.poolSize - s.pool.length

/-- The hold record of the client's hold on the lock is returned to the pool; its countdown goes with
it (R29, R30). -/
def State.freeHold (s : State) (c : ClientId) (n : LockId) : State :=
  s.setPool (s.pool.eraseP (PoolRecord.isHoldOf c n))

/-- The reservation of the client for the lock is returned to the pool (R30). -/
def State.freeReservation (s : State) (c : ClientId) (n : LockId) : State :=
  s.setPool (s.pool.eraseP (PoolRecord.isReservationOf c n))

/-- A free record becomes a reservation (R30, R43). -/
def State.addReservation (s : State) (c : ClientId) (n : LockId) : State :=
  s.setPool (s.pool ++ [.reservation c n])

/-- A free record, or one just freed, becomes a hold, the newest of its client (R22, R29). -/
def State.addHold (s : State) (h : Hold) : State :=
  s.setPool (s.pool ++ [.hold h])

/-- The budget state of the client's hold on the lock is changed in place (R29). -/
def State.updateHold (s : State) (c : ClientId) (n : LockId) (f : Hold → Hold) : State :=
  s.setPool (s.pool.map fun r =>
    match r with
    | .reservation c' n' => .reservation c' n'
    | .hold h => if h.client == c && h.lock == n then .hold (f h) else .hold h)

/-! ## Countdowns (R82) -/

/-- Arming to a configured value: 0 leaves the countdown unarmed. -/
def armed (v : BitVec 16) : Countdown :=
  if v = 0 then none else some v

/-- The countdown is due. -/
def isDue (c : Countdown) : Bool :=
  c == some 0

/-- A tick decrements an armed countdown that is not due (R82). -/
def tickDown : Countdown → Countdown
  | none => none
  | some v => if v = 0 then some 0 else some (v - 1)

/-! ## Rank, mark and client ceiling (R15, R23, R24) -/

/-- Lock `a` ranks above lock `b` (R15). -/
def State.ranksAbove (s : State) (a b : LockId) : Bool :=
  decide ((s.lock a).config.ceiling < (s.lock b).config.ceiling) ||
    ((s.lock a).config.ceiling == (s.lock b).config.ceiling && decide (b < a))

/-- The higher-ranked of a lock and the best so far. -/
def State.betterMark (s : State) (best : Option LockId) (h : Hold) : Option LockId :=
  match best with
  | none => some h.lock
  | some m => if s.ranksAbove h.lock m then some h.lock else some m

/-- The mark of a client: the highest-ranked lock of its held list (R23). -/
def State.mark (s : State) (c : ClientId) : Option LockId :=
  (s.heldList c).foldl s.betterMark none

/-- The priorities of the waiters queued on a lock, eligible or not (R24). -/
def State.queuedPriorities (s : State) (n : LockId) : List Nat :=
  (s.lock n).queue.filterMap fun d => (s.client d).wait.map fun w => w.priority.val

/-- The client ceiling (R24): 16 when the client holds nothing. -/
def State.clientCeiling (s : State) (c : ClientId) : Nat :=
  ((s.heldList c).flatMap fun h =>
    (s.lock h.lock).config.ceiling.val :: s.queuedPriorities h.lock).foldl min 16

/-! ## Client contexts (R19 to R27) -/

def State.setClientState (s : State) (c : ClientId) (st : ClientState) : State :=
  s.setClient c { s.client c with state := st }

def State.setWait (s : State) (c : ClientId) (w : Option WaitRecord) : State :=
  s.setClient c { s.client c with wait := w }

def State.setLastWaitEnd (s : State) (c : ClientId) (e : WaitEnd) : State :=
  s.setClient c { s.client c with lastWaitEnd := e }

def State.setResult (s : State) (c : ClientId) (r : ResultWord) : State :=
  s.setClient c { s.client c with result := r }

/-- The lock is in the client's revoked set (R25). -/
def State.inRevoked (s : State) (c : ClientId) (n : LockId) : Bool :=
  (s.client c).revoked.get n

/-- The lock joins or leaves the client's revoked set (R25). -/
def State.setRevoked (s : State) (c : ClientId) (n : LockId) (b : Bool) : State :=
  s.setClient c { s.client c with revoked := (s.client c).revoked.set n b }

/-- The number of members of the revoked set (R154). -/
def Client.revokedCount (r : Client) : Nat :=
  r.revoked.toList.countP id

/-! ## Notice slots and notices (R96 to R111) -/

/-- Used plus reserved count of an agent (R97). -/
def State.slotsTaken (s : State) (a : AgentId) : Nat :=
  (s.nu a).queue.length + (s.nu a).reserved

/-- A notice slot of the agent is free (R98, R101, R107). -/
def State.slotFree (s : State) (a : AgentId) : Bool :=
  decide (s.slotsTaken a < Config.noticeDepth)

/-- A slot is reserved for a wait (R98). -/
def State.reserveSlot (s : State) (a : AgentId) : State :=
  s.setNu a { s.nu a with reserved := (s.nu a).reserved + 1 }

/-- A reserved slot is freed with no notice (R100). -/
def State.freeSlot (s : State) (a : AgentId) : State :=
  s.setNu a { s.nu a with reserved := (s.nu a).reserved - 1 }

/-- A notice is appended at the tail (R96). -/
def State.appendNotice (s : State) (a : AgentId) (n : Notice) : State :=
  s.setNu a { s.nu a with queue := (s.nu a).queue ++ [n] }

/-- A reserved slot turns into the notice that ends the wait (R99). -/
def State.appendReserved (s : State) (a : AgentId) (n : Notice) : State :=
  (s.freeSlot a).appendNotice a n

/-- A WARNED or REVOKED notice finds no room: LOST is set with the kind's member of LOST_KINDS (R101). -/
def State.loseNotice (s : State) (a : AgentId) (n : Notice) : State :=
  match n with
  | .warned _ _ _ => s.setNu a { s.nu a with lost := true, lostWarned := true }
  | .revoked _ _ _ => s.setNu a { s.nu a with lost := true, lostRevoked := true }
  | .granted _ _ _ _ _ => s
  | .waitEnded _ _ _ => s
  | .mail _ _ => s

/-- A WARNED or REVOKED notice for a client: discarded, appended or dropped (R88, R101). -/
def State.passUnreserved (s : State) (c : ClientId) (n : Notice) : State :=
  if (s.client c).state = .detaching then s
  else if s.slotFree (agentOf c) then s.appendNotice (agentOf c) n
  else s.loseNotice (agentOf c) n

/-- The notice concerns the client slot; a MAIL notice concerns none (R109). -/
def Notice.concerns (sl : Slot) : Notice → Bool
  | .granted sl' _ _ _ _ => sl' == sl
  | .waitEnded sl' _ _ => sl' == sl
  | .warned sl' _ _ => sl' == sl
  | .revoked sl' _ _ => sl' == sl
  | .mail _ _ => false

/-- The client flush (R109). -/
def State.flushClient (s : State) (a : AgentId) (sl : Slot) : State :=
  s.setNu a { s.nu a with queue := (s.nu a).queue.filter fun n => !n.concerns sl }

/-- The agent flush (R110). -/
def State.flushAgent (s : State) (a : AgentId) : State :=
  s.setNu a { s.nu a with queue := [] }

/-! ## Results, faults and denials (R27, R36, R138, R146) -/

/-- A fault is offered to the agent's fault record (R138). -/
def State.offerFault (s : State) (o : Origin) (r : Result) : State :=
  if (s.nu o.agent).fault then s.setNu o.agent { s.nu o.agent with multi := true }
  else
    s.setNu o.agent
      { s.nu o.agent with
        fault := true
        faultRecord := some { window := o.window, command := o.command, fault := r } }

/-- A DENIED fault is offered to the denial record (R146). -/
def State.offerDenial (s : State) (o : Origin) (n : LockId) : State :=
  match s.su.denialRecord with
  | some _ => s
  | none =>
    s.setSu
      { s.su with
        flags := { s.su.flags with denial := true }
        denialRecord :=
          some { agent := o.agent, slot := o.slot, lock := n, domain := (s.lock n).config.domain } }

/-- The result of an agent command: the result register is written, and a fault is recorded (R27, R36). -/
def State.answer (s : State) (o : Origin) (r : Result) (n : LockId) (g : BitVec 16) : State :=
  let s := s.setResult o.client { result := r, slot := o.slot, lock := n, generation := g }
  let s := if r.isFault then s.offerFault o r else s
  if r = .denied then s.offerDenial o n else s

/-- The agent's mask has the lock's domain (R34). -/
def State.domainAllowed (s : State) (a : AgentId) (n : LockId) : Bool :=
  (s.agentConfig a).mask.getLsbD (s.lock n).config.domain

/-- SRESULT is written (R149, R150). -/
def State.setSResult (s : State) (r : SupResult) (code : BitVec 4) (number : Fin 64) : State :=
  s.setSu { s.su with sresult := { result := r, command := code, number := number } }

end Sys2Proof.Machine
end

