-- ==== Sys2Proof/Machine/LockEngine.lean ====
section
/-! DEFINITION. The Lock Engine's procedures: eligibility (R65), grants (R6, R42, R46), grant evaluation
(R45), the endings of a wait (R63), the removal of a hold (R7, R10), the DEAD flush (R13), and the
four lock commands and RENEW as one happening each. -/

namespace Sys2Proof.Machine

/-! ## Eligibility (R65) -/

/-- A request or waiter of priority `p` is gated when `p ≥ G` (R39). -/
def State.gated (s : State) (p : Priority) : Bool :=
  decide (s.su.gate.val ≤ p.val)

/-- The waiter entry of a client on lock `n` is eligible: not gated, its client not DETACHING, its mode
admissible in the lock's state (R65). -/
def State.eligible (s : State) (n : LockId) (c : ClientId) : Bool :=
  match (s.client c).wait with
  | none => false
  | some w =>
    !s.gated w.priority && (s.client c).state != .detaching
      && !((s.lock n).state == .orphaned && w.mode == .shared)

/-- The eligible waiters of a lock, in queue order. -/
def State.eligibleWaiters (s : State) (n : LockId) : List ClientId :=
  (s.lock n).queue.filter (s.eligible n)

/-- The client waits for a SHARED hold. -/
def State.waitsShared (s : State) (c : ClientId) : Bool :=
  match (s.client c).wait with
  | none => false
  | some w => w.mode == .shared

/-! ## Grants -/

/-- The lock state after a grant (R6). -/
def stateAfterGrant : LockState → Mode → LockState
  | .free, .exclusive => .held
  | .free, .shared => .shared
  | .shared, .shared => .shared
  | .orphaned, .exclusive => .suspect
  | st, _ => st

/-- A client gains a hold: the generation is incremented, the record takes the new generation with
phase BUDGET, its countdown armed to the budget, the lock takes its state, and the lock leaves the
client's revoked set (R6, R16, R42, R46, R86). -/
def State.createHold (s : State) (c : ClientId) (n : LockId) (m : Mode) : State :=
  let l := s.lock n
  let g := l.generation + 1
  let s := s.addHold
    { client := c, lock := n, mode := m, generation := g, countdown := armed l.config.budget,
      phase := .budget, warned := false }
  let s := s.setLock n
    { l with
      state := stateAfterGrant l.state m
      generation := g
      cleanPending := l.state == .orphaned }
  s.setRevoked c n false

/-- A waiter leaves a lock's queue and its wait record is deleted, the countdown with it (R63). -/
def State.leaveQueue (s : State) (c : ClientId) (n : LockId) : State :=
  (s.setLock n { s.lock n with queue := (s.lock n).queue.erase c }).setWait c none

/-- A wait ends otherwise than by a grant: its reservation goes back to the pool (R21, R63). -/
def State.endWait (s : State) (c : ClientId) (n : LockId) : State :=
  (s.leaveQueue c n).freeReservation c n

/-- The grant of one waiter by grant evaluation (R46). -/
def State.grantWaiter (n : LockId) (s : State) (c : ClientId) : State :=
  match (s.client c).wait with
  | none => s
  | some w =>
    let suspect := (s.lock n).state == .orphaned
    let s := ((s.leaveQueue c n).freeReservation c n).createHold c n w.mode
    let s := (s.setClientState c .ready).setLastWaitEnd c .granted
    s.appendReserved (agentOf c) (.granted (slotOf c) n w.mode suspect (s.lock n).generation)

/-- The waiters grant evaluation grants, chosen from the queue as it stands (R45). -/
def State.waitersToGrant (s : State) (n : LockId) : List ClientId :=
  let q := s.eligibleWaiters n
  match (s.lock n).state with
  | .free =>
    match q with
    | [] => []
    | c :: _ => if s.waitsShared c then q.takeWhile s.waitsShared else [c]
  | .orphaned => (q.filter fun c => !s.waitsShared c).take 1
  | .shared => q.takeWhile s.waitsShared
  | .held => []
  | .suspect => []
  | .offline => []
  | .dead => []

/-- Grant evaluation on a lock (R45, R47). -/
def State.grantEval (s : State) (n : LockId) : State :=
  (s.waitersToGrant n).foldl (State.grantWaiter n) s

/-! ## Waits -/

/-- The priority at which a client waits; a queued client always has a wait record (R60). -/
def State.waitPriority (s : State) (c : ClientId) : Priority :=
  match (s.client c).wait with
  | none => 15
  | some w => w.priority

/-- The queue with a waiter of priority `p` inserted immediately after the last entry whose priority is
numerically smaller than or equal to `p`, or at the head when there is none (R60). -/
def insertWaiter (priority : ClientId → Priority) (c : ClientId) (p : Priority) : List ClientId → List ClientId
  | [] => [c]
  | d :: ds =>
    if (d :: ds).any fun e => decide (priority e ≤ p) then d :: insertWaiter priority c p ds
    else c :: d :: ds

/-- A WAIT is queued (R43, steps 1 to 5). -/
def State.enqueue (s : State) (c : ClientId) (n : LockId) (m : Mode) (p : Priority) : State :=
  let q := insertWaiter s.waitPriority c p (s.lock n).queue
  let s := (s.addReservation c n).reserveSlot (agentOf c)
  let s := s.setWait c
    (some { lock := n, mode := m, priority := p, countdown := armed (s.client c).waitLimit })
  let s := s.setLock n { s.lock n with queue := q }
  (s.setClientState c .waiting).setLastWaitEnd c .none

/-- A wait ends by expiry or by the DEAD flush (R13, R84): a DETACHING client stays so and its slot is
freed silently, any other becomes READY with a WAIT_ENDED notice through its reserved slot. -/
def State.endWaitReported (s : State) (c : ClientId) (n : LockId) (e : WaitEnd) (r : WaitEndReason) : State :=
  let s := (s.endWait c n).setLastWaitEnd c e
  if (s.client c).state = .detaching then s.freeSlot (agentOf c)
  else (s.setClientState c .ready).appendReserved (agentOf c) (.waitEnded (slotOf c) n r)

/-- A wait is cancelled with no notice (R54 steps 1 to 4, R118); the client's state is the caller's. -/
def State.cancelWait (s : State) (c : ClientId) (n : LockId) : State :=
  ((s.endWait c n).freeSlot (agentOf c)).setLastWaitEnd c .cancelled

/-! ## Removal of a hold -/

/-- The state a lock takes when a hold is removed (R7, R10): `alone` is the state it takes when the
removed hold was EXCLUSIVE. -/
def stateAfterRemoval (alone : LockState) (m : Mode) (othersRemain : Bool) : LockState :=
  match m with
  | .exclusive => alone
  | .shared => if othersRemain then .shared else .free

/-- A hold leaves the pool and its lock takes the state that remains (R7, R10); `alone` is FREE for a
release and ORPHANED for a revoke or a reclaim. -/
def State.removeHold (s : State) (h : Hold) (alone : LockState) : State :=
  let s := s.freeHold h.client h.lock
  s.setLock h.lock
    { s.lock h.lock with
      state := stateAfterRemoval alone h.mode (!(s.holders h.lock).isEmpty)
      cleanPending := false }

/-- A revoke (R89). -/
def State.revoke (s : State) (h : Hold) : State :=
  let s := (s.removeHold h .orphaned).setRevoked h.client h.lock true
  let s := s.passUnreserved h.client (.revoked (slotOf h.client) h.lock h.generation)
  s.grantEval h.lock

/-- A reclaim step takes a hold (R119). -/
def State.reclaimHold (s : State) (h : Hold) : State :=
  (s.removeHold h .orphaned).grantEval h.lock

/-- The DEAD flush of a lock's queue (R13). -/
def State.deadFlush (s : State) (n : LockId) : State :=
  (s.lock n).queue.foldl (fun s c => s.endWaitReported c n .flushed .dead) s

/-- A SU flag is set (R143). -/
def State.raise (s : State) (f : SupFlags → SupFlags) : State :=
  s.setSu { s.su with flags := f s.su.flags }

/-- The holder of a SUSPECT lock releases it while it awaits a clean declaration (R8). -/
def State.makeDead (s : State) (c : ClientId) (n : LockId) : State :=
  let s := s.freeHold c n
  let s := s.setLock n { s.lock n with state := .dead, cleanPending := false }
  (s.deadFlush n).raise fun f => { f with lockDead := true }

/-! ## ACQUIRE (R38 to R43) -/

/-- What the checks of an ACQUIRE come to. -/
inductive Decision where
  | refuse (r : Result)
  | grant
  | enqueue
  deriving DecidableEq, Repr

/-- Step 12: the request is grantable at once (R40). -/
def State.grantableAtOnce (s : State) (n : LockId) (m : Mode) : Bool :=
  (match m with
    | .exclusive => (s.lock n).state == .free || (s.lock n).state == .orphaned
    | .shared => ((s.lock n).state == .free || (s.lock n).state == .shared) && (s.lock n).config.sharedOk)
    && (s.eligibleWaiters n).isEmpty

/-- Step 13 (R41). -/
def State.queueDecision (s : State) (a : AgentId) (n : LockId) (k : Kind) : Decision :=
  if k = .tryOnce then .refuse .busy
  else if Config.waitersPerLock ≤ (s.lock n).queue.length then .refuse .busy
  else if !s.slotFree a then .refuse .queueFull
  else if s.freeCount = 0 then .refuse .noSpace
  else .enqueue

/-- Steps 11 to 13 (R39 to R41). -/
def State.grantDecision (s : State) (a : AgentId) (n : LockId) (m : Mode) (k : Kind) (p : Priority) : Decision :=
  if s.gated p then (if k = .tryOnce then .refuse .gated else s.queueDecision a n k)
  else if s.grantableAtOnce n m then (if s.freeCount = 0 then .refuse .noSpace else .grant)
  else s.queueDecision a n k

/-- Step 10: the lock does not rank above the client's mark (R68). -/
def State.belowMark (s : State) (c : ClientId) (n : LockId) : Bool :=
  match s.mark c with
  | none => false
  | some m => !s.ranksAbove n m

/-- The checks of an ACQUIRE, in order (R38). -/
def State.acquireDecision (s : State) (a : AgentId) (c : ClientId) (n : LockId) (m : Mode) (k : Kind)
    (p : Priority) : Decision :=
  if (s.client c).state = .off then .refuse .clientOff
  else if (s.client c).state = .detaching then .refuse .detaching
  else if (s.client c).state = .waiting then .refuse .clientWaiting
  else if (s.lock n).state = .offline then .refuse .lockOffline
  else if !s.domainAllowed a n then .refuse .denied
  else if (s.lock n).state = .dead then .refuse .dead
  else if (s.findHold c n).isSome then .refuse .selfHeld
  else if m = .shared ∧ (s.lock n).config.sharedOk = false then .refuse .noShared
  else if Config.holdsPerClient ≤ (s.heldList c).length then .refuse .holdLimit
  else if k = .wait ∧ s.belowMark c n = true then .refuse .order
  else s.grantDecision a n m k p

/-- An ACQUIRE taken at the LE (R38). -/
def State.acquireOp (s : State) (o : Origin) (n : LockId) (m : Mode) (k : Kind) (p : Priority) : State :=
  match s.acquireDecision o.agent o.client n m k p with
  | .refuse r => s.answer o r n 0
  | .grant =>
    let r := if (s.lock n).state = .orphaned then Result.okSuspect else Result.ok
    let s := s.createHold o.client n m
    s.answer o r n (s.lock n).generation
  | .enqueue => ((s.enqueue o.client n m p).answer o .waiting n 0).grantEval n

/-! ## RELEASE, MARK_CLEAN, CANCEL, RENEW -/

/-- The checks that RELEASE, MARK_CLEAN and RENEW share (R49, R53, R91, steps 1 to 3). -/
def State.holderCheck (s : State) (c : ClientId) (n : LockId) : Option Result :=
  if (s.client c).state = .off then some .clientOff
  else if (s.client c).state = .detaching then some .detaching
  else if (s.lock n).state = .offline then some .lockOffline
  else none

/-- What such a command comes to when the client has neither a hold on the lock nor a revoked entry
(R34): DENIED, or NOT_HOLDER. -/
def State.noHoldResult (s : State) (a : AgentId) (n : LockId) : Result :=
  if s.domainAllowed a n then .notHolder else .denied

/-- A RELEASE taken at the LE (R49 to R51). -/
def State.releaseOp (s : State) (o : Origin) (n : LockId) : State :=
  match s.holderCheck o.client n with
  | some r => s.answer o r n 0
  | none =>
    match s.findHold o.client n with
    | none =>
      if s.inRevoked o.client n then (s.setRevoked o.client n false).answer o .revokedEarlier n 0
      else s.answer o (s.noHoldResult o.agent n) n 0
    | some h =>
      if (s.lock n).state = .suspect ∧ (s.lock n).cleanPending = true then
        (s.makeDead o.client n).answer o .releasedDead n h.generation
      else ((s.removeHold h .free).grantEval n).answer o .released n h.generation

/-- A MARK_CLEAN taken at the LE (R53, R9). -/
def State.markCleanOp (s : State) (o : Origin) (n : LockId) : State :=
  match s.holderCheck o.client n with
  | some r => s.answer o r n 0
  | none =>
    match s.findHold o.client n with
    | none =>
      if s.inRevoked o.client n then s.answer o .notHolder n 0
      else s.answer o (s.noHoldResult o.agent n) n 0
    | some h =>
      if (s.lock n).state = .suspect then
        (s.setLock n { s.lock n with state := .held, cleanPending := false }).answer o .cleaned n h.generation
      else s.answer o .notSuspect n 0

/-- A CANCEL taken at the LE (R54, R55). -/
def State.cancelOp (s : State) (o : Origin) : State :=
  match (s.client o.client).state with
  | .off => s.answer o .clientOff 0 0
  | .detaching => s.answer o .detaching 0 0
  | .waiting =>
    match (s.client o.client).wait with
    | none => s.answer o .notWaiting 0 0
    | some w =>
      let s := (s.cancelWait o.client w.lock).setClientState o.client .ready
      (s.answer o .cancelled w.lock 0).grantEval w.lock
  | .ready =>
    match (s.client o.client).lastWaitEnd with
    | .granted => s.answer o .tooLate 0 0
    | .expired => s.answer o .tooLate 0 0
    | .flushed => s.answer o .tooLate 0 0
    | .none => s.answer o .notWaiting 0 0
    | .cancelled => s.answer o .notWaiting 0 0

/-- A RENEW taken at the LE (R91). -/
def State.renewOp (s : State) (o : Origin) (n : LockId) : State :=
  match s.holderCheck o.client n with
  | some r => s.answer o r n 0
  | none =>
    match s.findHold o.client n with
    | none =>
      if s.inRevoked o.client n then s.answer o .revokedEarlier n 0
      else s.answer o (s.noHoldResult o.agent n) n 0
    | some h =>
      if (s.lock n).config.renewable = false ∨ (s.lock n).config.budget = 0 then
        s.answer o .notRenewable n 0
      else
        let b := (s.lock n).config.budget
        (s.updateHold o.client n fun h =>
          { h with countdown := some b, phase := .budget, warned := false }).answer o .renewed n h.generation

/-! ## Expiries (R84, R87) -/

/-- A hold expiry in BUDGET under WARN, or under WARN_REVOKE with the grace given (R87): a WARNED notice
is passed, warned becomes yes, and the countdown and phase take the values given. -/
def State.warnHold (s : State) (h : Hold) (countdown : Countdown) (phase : Phase) : State :=
  let s := s.passUnreserved h.client (.warned (slotOf h.client) h.lock h.generation)
  s.updateHold h.client h.lock fun h => { h with countdown := countdown, phase := phase, warned := true }

/-- The expiry of a due hold countdown (R87). -/
def State.expireHold (s : State) (h : Hold) : State :=
  match h.phase with
  | .grace => s.revoke h
  | .budget =>
    match (s.lock h.lock).config.action with
    | .warn => s.warnHold h none .budget
    | .revoke => s.revoke h
    | .warnRevoke =>
      if (s.lock h.lock).config.grace = 0 then s.revoke h
      else s.warnHold h (some (s.lock h.lock).config.grace) .grace

/-- A hold expiry taken at the LE. A countdown that is no longer due has had its expiry withdrawn
(R83), and nothing is taken. -/
def State.holdExpiryOp (s : State) (c : ClientId) (n : LockId) : State :=
  match s.findHold c n with
  | none => s
  | some h => if isDue h.countdown then s.expireHold h else s

/-- A wait expiry taken at the LE (R84), when the client's wait countdown is due. Its own grant evaluation
grants what the ended wait held back, as R84 step 5 and R63 say; R94 leaves that to the evaluation of a
later revoke when a SHARED hold of the lock is due too, and R85 has the lock and the queue end the same
whichever of two due waits expires first, which fails where the first expiry grants the other waiter and
so withdraws its expiry (R83). The rules differ, and following R84, R63 and R83 is the model's choice
(DESIGN CHOICE, logs 13 and 14). -/
def State.waitExpiryOp (s : State) (c : ClientId) : State :=
  match (s.client c).wait with
  | none => s
  | some w =>
    if isDue w.countdown then (s.endWaitReported c w.lock .expired .expired).grantEval w.lock else s

end Sys2Proof.Machine
end

