-- ==== Sys2Proof/Machine/AgentCommands.lean ====
section
/-! DEFINITION. The meanings of the ACMD commands (R129) and of the claim-window accesses (R135, R136). -/

namespace Sys2Proof.Machine

/-- ACQUIRE (R38). -/
def execAcquire (a : AgentId) (sl : Slot) (n : LockId) (m : Mode) (k : Kind) (p : Priority)
    (unused : BitVec 15) (s : State) : Host.Outcome State Fault Refusal :=
  .next (s.acquireOp (Origin.acmd a sl (acquireWord sl n m k p unused)) n m k p)

/-- RELEASE (R49). -/
def execRelease (a : AgentId) (sl : Slot) (n : LockId) (unused : BitVec 21) (s : State) : Host.Outcome State Fault Refusal :=
  .next (s.releaseOp (Origin.acmd a sl (lockWord opRelease sl n unused)) n)

/-- CANCEL (R54). -/
def execCancel (a : AgentId) (sl : Slot) (unused : BitVec 27) (s : State) : Host.Outcome State Fault Refusal :=
  .next (s.cancelOp (Origin.acmd a sl (bareWord opCancel sl unused)))

/-- RENEW (R91). -/
def execRenew (a : AgentId) (sl : Slot) (n : LockId) (unused : BitVec 21) (s : State) : Host.Outcome State Fault Refusal :=
  .next (s.renewOp (Origin.acmd a sl (lockWord opRenew sl n unused)) n)

/-- MARK_CLEAN (R53). -/
def execMarkClean (a : AgentId) (sl : Slot) (n : LockId) (unused : BitVec 21) (s : State) : Host.Outcome State Fault Refusal :=
  .next (s.markCleanOp (Origin.acmd a sl (lockWord opMarkClean sl n unused)) n)

/-- A MAIL taken at the NU (R107). -/
def State.mailOp (s : State) (o : Origin) (target : AgentId) (payload : BitVec 16) : State :=
  if (s.client o.client).state = .off then s.answer o .clientOff 0 0
  else if (s.client o.client).state = .detaching then s.answer o .detaching 0 0
  else if (s.line target).attach ≠ .attached then s.answer o .targetOff 0 0
  else if !s.slotFree target then s.answer o .queueFull 0 0
  else (s.appendNotice target (.mail o.client payload)).answer o .mailed 0 0

/-- MAIL (R107). -/
def execMail (a : AgentId) (sl : Slot) (target : AgentId) (payload : BitVec 16) (unused : BitVec 8)
    (s : State) : Host.Outcome State Fault Refusal :=
  .next (s.mailOp (Origin.acmd a sl (mailWord sl target payload unused)) target payload)

/-- BAD_OPCODE (R129): the fault is given before the client's state is looked at. -/
def execBadOpcode (a : AgentId) (sl : Slot) (opcode : BitVec 3) (unused : BitVec 27) (s : State) : Host.Outcome State Fault Refusal :=
  .next (s.answer (Origin.acmd a sl (bareWord opcode sl unused)) .badOpcode 0 0)

/-- CLAIM_READ (R135): an ACQUIRE TRY EXCLUSIVE by the window client at the window priority; the result
word is the read data. -/
def execClaimRead (a : AgentId) (n : LockId) (s : State) : Host.Outcome State Fault Refusal :=
  let o := Origin.claimRead a (s.window a) n
  let t := s.acquireOp o n .exclusive .tryOnce (s.window a).priority
  .next (t.setBusData (t.client o.client).result.encode)

/-- CLAIM_WRITE (R136): a RELEASE by the window client; the written data are ignored. -/
def execClaimWrite (a : AgentId) (n : LockId) (_data : Word) (s : State) : Host.Outcome State Fault Refusal :=
  .next (s.releaseOp (Origin.claimWrite a (s.window a) n) n)

end Sys2Proof.Machine
end

