-- ==== Sys2Proof/Machine/ReclaimEngine.lean ====
section
/-! DEFINITION. The Reclaim Engine's procedures: detach requests (R114), their placement in the job queue
(R115), attaching (R113), the steps of the ACTIVE job (R118 to R123), and the line edges (R113). -/

namespace Sys2Proof.Machine

/-! ## Slot sets -/

/-- The slots in ascending order. -/
def allSlots : List Slot :=
  [0, 1, 2, 3]

/-- Every slot. -/
def everySlot : SlotSet :=
  Vector.replicate 4 true

/-- One slot. -/
def onlySlot (sl : Slot) : SlotSet :=
  (Vector.replicate 4 false).set sl true

/-- The slots of either set. -/
def slotUnion (x y : SlotSet) : SlotSet :=
  Vector.ofFn fun sl => x.get sl || y.get sl

/-- The position at the WAIT phase of the lowest slot of the set, or the final step when the set is
empty (R115, R120, R123). -/
def firstPosition (set : SlotSet) : Position :=
  match allSlots.find? fun sl => set.get sl with
  | none => .final
  | some sl => .step sl .wait

/-! ## Attaching (R113) -/

/-- The clients of the slots given take a state. -/
def State.setSlotStates (s : State) (a : AgentId) (slots : List Slot) (st : ClientState) : State :=
  slots.foldl (fun s sl => s.setClientState (clientOf a sl) st) s

def State.setAttach (s : State) (a : AgentId) (st : AttachState) : State :=
  s.setLine a { s.line a with attach := st }

/-- The agent becomes ATTACHED and its four clients become READY (R113). -/
def State.attachAgent (s : State) (a : AgentId) : State :=
  (s.setAttach a .attached).setSlotStates a allSlots .ready

/-! ## Detach requests (R114, R115) -/

/-- The clients a request names that are READY or WAITING: the request's set (R114). -/
def State.requestSet (s : State) (a : AgentId) (named : SlotSet) : SlotSet :=
  Vector.ofFn fun sl =>
    named.get sl
      && ((s.client (clientOf a sl)).state == .ready || (s.client (clientOf a sl)).state == .waiting)

/-- The lock of a client's wait record is evaluated, if it has one (R67). -/
def State.evalWaitLock (s : State) (c : ClientId) : State :=
  match (s.client c).wait with
  | none => s
  | some w => s.grantEval w.lock

/-- A request merges into a WAITING job of its agent (R115). -/
def Job.merge (j : Job) (set : SlotSet) (scope : Scope) : Job :=
  { j with
    set := slotUnion j.set set
    named := slotUnion j.named set
    scope := if scope = .agent then .agent else j.scope }

/-- The placement of a request in the job queue (R115). -/
def State.placeRequest (s : State) (a : AgentId) (set : SlotSet) (scope : Scope) : State :=
  let job : Job := { agent := a, set := set, named := set, scope := scope }
  if s.waitingJobs.any fun j => j.agent == a then
    s.setWaitingJobs (s.waitingJobs.map fun j => if j.agent = a then j.merge set scope else j)
  else if s.activeJob.isNone && s.waitingJobs.isEmpty then
    s.setActiveJob (some { job := job, position := firstPosition set })
  else s.setWaitingJobs (s.waitingJobs ++ [job])

/-- A detach request (R114), then its placement: the clients of the set become DETACHING, an AGENT-scope
request makes the agent DETACHING, and the lock of each wait is evaluated in ascending slot order. -/
def State.detachRequest (s : State) (a : AgentId) (named : SlotSet) (scope : Scope) : State :=
  let set := s.requestSet a named
  let slots := allSlots.filter fun sl => set.get sl
  let s := s.setSlotStates a slots .detaching
  let s := if scope = .agent then s.setAttach a .detaching else s
  let s := slots.foldl (fun s sl => s.evalWaitLock (clientOf a sl)) s
  s.placeRequest a set scope

/-! ## Steps of the ACTIVE job -/

/-- A WAIT step for a client (R118): its wait, if it has one, is cancelled silently. -/
def State.reclaimWait (s : State) (c : ClientId) : State :=
  match (s.client c).wait with
  | none => s
  | some w => (s.cancelWait c w.lock).grantEval w.lock

/-- The ended job leaves the queue and the WAITING job at its head becomes ACTIVE (R123). -/
def State.activateNext (s : State) : State :=
  match s.waitingJobs with
  | [] => s.setActiveJob none
  | j :: js => (s.setActiveJob (some { job := j, position := firstPosition j.set })).setWaitingJobs js

/-- JOB_DONE is set and the next job is activated (R121 to R123). -/
def State.endJob (s : State) : State :=
  (s.raise fun f => { f with jobDone := true }).activateNext

/-- A client of a CLIENT-scope job returns to READY (R121). -/
def State.returnClient (s : State) (c : ClientId) : State :=
  (s.setClientState c .ready).setLastWaitEnd c .cancelled

/-- A client of an AGENT-scope job becomes OFF (R122). -/
def State.turnOffClient (s : State) (c : ClientId) : State :=
  s.setClient c
    { s.client c with
      state := .off
      lastWaitEnd := .none
      revoked := Vector.replicate 64 false }

/-- The clients of a CLIENT-scope job pass to the WAITING job of their DETACHING agent (R121). -/
def State.carryClients (s : State) (j : Job) : State :=
  s.setWaitingJobs
    (s.waitingJobs.map fun k =>
      if k.agent = j.agent then
        { k with set := slotUnion k.set j.named, named := slotUnion k.named j.named }
      else k)

/-- The next step of the ACTIVE job is the WAIT step of a client (R118). -/
def State.waitStepOp (s : State) : State :=
  match s.activeJob with
  | some { job := j, position := .step sl .wait } =>
    (s.reclaimWait (clientOf j.agent sl)).setActiveJob (some { job := j, position := .step sl .hold })
  | _ => s

/-- The next step of the ACTIVE job is a HOLD step of a client (R119): its newest hold is reclaimed, or
the position moves on to the FLUSH phase. -/
def State.holdStepOp (s : State) : State :=
  match s.activeJob with
  | some { job := j, position := .step sl .hold } =>
    match (s.heldList (clientOf j.agent sl)).getLast? with
    | none => s.setActiveJob (some { job := j, position := .step sl .flush })
    | some h => s.reclaimHold h
  | _ => s

/-- The next step of the ACTIVE job is the FLUSH step of a client (R120). -/
def State.flushStepOp (s : State) : State :=
  match s.activeJob with
  | some { job := j, position := .step sl .flush } =>
    let set := j.set.set sl false
    (s.flushClient j.agent sl).setActiveJob
      (some { job := { j with set := set }, position := firstPosition set })
  | _ => s

/-- The final step of a CLIENT-scope job on the named clients (R121). -/
def State.endClientJob (s : State) (j : Job) : State :=
  match (s.line j.agent).attach with
  | .attached =>
    (allSlots.filter fun sl => j.named.get sl).foldl (fun s sl => s.returnClient (clientOf j.agent sl)) s
  | .detaching => s.carryClients j
  | .detached => s

/-- The final step of a CLIENT-scope job (R121). -/
def State.clientJobFinalOp (s : State) : State :=
  match s.activeJob with
  | some { job := j, position := .final } => if j.scope = .client then (s.endClientJob j).endJob else s
  | _ => s

/-- The final step of an AGENT-scope job on its agent (R122, steps 1 to 4). -/
def State.endAgentJob (s : State) (a : AgentId) : State :=
  let s := allSlots.foldl (fun s sl => s.turnOffClient (clientOf a sl)) s
  let s := (s.flushAgent a).setAttach a .detached
  if (s.agentConfig a).autoAttach && !(s.line a).asserted then s.attachAgent a else s

/-- The final step of an AGENT-scope job (R122). -/
def State.agentJobFinalOp (s : State) : State :=
  match s.activeJob with
  | some { job := j, position := .final } => if j.scope = .agent then (s.endAgentJob j.agent).endJob else s
  | _ => s

/-! ## Line edges (R113) -/

def State.setLevel (s : State) (a : AgentId) (asserted : Bool) : State :=
  s.setLine a { s.line a with asserted := asserted }

/-- An assertion edge (R113): a level already asserted is no edge. -/
def State.assertLine (s : State) (a : AgentId) : State :=
  if (s.line a).asserted then s
  else
    let s := s.setLevel a true
    if (s.line a).attach = .attached then s.detachRequest a everySlot .agent else s

/-- A deassertion edge (R113): a level already deasserted is no edge. -/
def State.deassertLine (s : State) (a : AgentId) : State :=
  if !(s.line a).asserted then s
  else
    let s := s.setLevel a false
    if (s.line a).attach = .detached ∧ (s.agentConfig a).autoAttach = true then s.attachAgent a else s

end Sys2Proof.Machine
end

