-- ==== Sys2Proof/Machine/BackgroundSteps.lean ====
section
/-! DEFINITION. The meanings of the steps the part takes in the background: the sweep (R75, R76) and the
steps of the ACTIVE reclaim job (R118 to R123). A step whose turn it is not is no happening of the
part, and its command changes nothing (DESIGN CHOICE, log 4). -/

namespace Sys2Proof.Machine

/-- Grant evaluation by a sweep step: none on an OFFLINE lock (R75). -/
def State.sweepLock (s : State) (n : LockId) : State :=
  if (s.lock n).state = .offline then s else s.grantEval n

/-- The sweep after a step, and whether the step ends the last pass (R75, R76). -/
def Sweep.advance (w : Sweep) : Sweep × Bool :=
  if w.position = Config.lastLock then
    if w.again then ({ running := true, position := 0, again := false }, false)
    else ({ running := false, position := 0, again := false }, true)
  else ({ w with position := w.position + 1 }, false)

/-- A sweep step (R75, R76). -/
def State.sweepStepOp (s : State) : State :=
  if s.su.sweep.running then
    let s := s.sweepLock s.su.sweep.position
    let next := s.su.sweep.advance
    let s := s.setSu { s.su with sweep := next.1 }
    if next.2 then s.raise fun f => { f with sweepDone := true } else s
  else s

/-- SWEEP_STEP (R75). -/
def execSweepStep (s : State) : Host.Outcome State Fault Refusal :=
  .next s.sweepStepOp

/-- WAIT_STEP (R118). -/
def execWaitStep (s : State) : Host.Outcome State Fault Refusal :=
  .next s.waitStepOp

/-- HOLD_STEP (R119). -/
def execHoldStep (s : State) : Host.Outcome State Fault Refusal :=
  .next s.holdStepOp

/-- FLUSH_STEP (R120). -/
def execFlushStep (s : State) : Host.Outcome State Fault Refusal :=
  .next s.flushStepOp

/-- CLIENT_JOB_FINAL_STEP (R121). -/
def execClientJobFinalStep (s : State) : Host.Outcome State Fault Refusal :=
  .next s.clientJobFinalOp

/-- AGENT_JOB_FINAL_STEP (R122). -/
def execAgentJobFinalStep (s : State) : Host.Outcome State Fault Refusal :=
  .next s.agentJobFinalOp

end Sys2Proof.Machine
end

