-- ==== Sys2Proof/Machine/Flags.lean ====
section
/-! DEFINITION. The causes and the interrupt outputs (spec/09), computed from the state, and the
write-one-to-clear writes of AFLAGS and SFLAGS. -/

namespace Sys2Proof.Machine

/-- The NOTICE cause of an agent: a level (R105). -/
def State.noticeCause (s : State) (a : AgentId) : Bool :=
  decide ((s.nu a).threshold.val ≤ (s.nu a).queue.length)

/-- The interrupt output of an agent (R140). -/
def State.agentInterrupt (s : State) (a : AgentId) : Bool :=
  (s.noticeCause a && (s.nu a).noticeEn) || ((s.nu a).lost && (s.nu a).lostEn)
    || ((s.nu a).fault && (s.nu a).faultEn)

/-- The POOL_LOW cause: a level (R33). -/
def State.poolLow (s : State) : Bool :=
  decide (s.freeCount < s.su.poolLowThreshold.val)

/-- The supervisor interrupt output (R143). -/
def State.supervisorInterrupt (s : State) : Bool :=
  (s.su.flags.accessErr && s.su.enables.accessErr) || (s.su.flags.denial && s.su.enables.denial)
    || (s.su.flags.lockDead && s.su.enables.lockDead) || (s.su.flags.jobDone && s.su.enables.jobDone)
    || (s.su.flags.sweepDone && s.su.enables.sweepDone) || (s.poolLow && s.su.poolLowEn)

/-- LOST is cleared and LOST_KINDS emptied (R102). -/
def AgentNotices.clearLost (r : AgentNotices) : AgentNotices :=
  { r with lost := false, lostWarned := false, lostRevoked := false }

/-- FAULT and MULTI are cleared and the fault record emptied (R139). -/
def AgentNotices.clearFault (r : AgentNotices) : AgentNotices :=
  { r with fault := false, multi := false, faultRecord := none }

/-- A word written to AFLAGS (R139): each flag written as 1 is cleared, each written as 0 is left. -/
def AgentNotices.writeAflags (r : AgentNotices) (w : Word) : AgentNotices :=
  let r := if w.getLsbD 0 then r.clearLost else r
  if w.getLsbD 1 then r.clearFault
  else if w.getLsbD 2 then { r with multi := false }
  else r

/-- A word write to AFLAGS of page `a` (R139). -/
def State.writeAflags (s : State) (a : AgentId) (w : Word) : State :=
  s.setNu a ((s.nu a).writeAflags w)

/-- The flags a word written to SFLAGS leaves (R144). -/
def SupFlags.cleared (f w : SupFlags) : SupFlags where
  accessErr := f.accessErr && !w.accessErr
  denial := f.denial && !w.denial
  lockDead := f.lockDead && !w.lockDead
  jobDone := f.jobDone && !w.jobDone
  sweepDone := f.sweepDone && !w.sweepDone

/-- A word write to SFLAGS (R144): clearing DENIAL also empties the denial record (R147). -/
def State.writeSflags (s : State) (w : Word) : State :=
  let f := SupFlags.ofWord w
  s.setSu
    { s.su with
      flags := s.su.flags.cleared f
      denialRecord := if f.denial then none else s.su.denialRecord }

end Sys2Proof.Machine
end

