-- ==== Sys2Proof/Machine/NoticeCommands.lean ====
section
/-! DEFINITION. The meanings of NOTICE_POP (R104) and of the writes to AFLAGS (R102, R139). -/

namespace Sys2Proof.Machine

/-- A word read of NOTICE (R104): the head is returned and removed, or EMPTY returned. -/
def State.popNotice (s : State) (a : AgentId) : State :=
  (s.setBusData (encodeHead (s.nu a).queue.head?)).setNu a
    { s.nu a with queue := (s.nu a).queue.tail }

/-- NOTICE_POP (R104). -/
def execNoticePop (a : AgentId) (s : State) : Host.Outcome State Fault Refusal :=
  .next (s.popNotice a)

/-- CLEAR_LOST (R102). -/
def execClearLost (a : AgentId) (w : Word) (s : State) : Host.Outcome State Fault Refusal :=
  .next (s.writeAflags a w)

/-- CLEAR_FAULT (R139). -/
def execClearFault (a : AgentId) (w : Word) (s : State) : Host.Outcome State Fault Refusal :=
  .next (s.writeAflags a w)

/-- CLEAR_MULTI (R139). -/
def execClearMulti (a : AgentId) (w : Word) (s : State) : Host.Outcome State Fault Refusal :=
  .next (s.writeAflags a w)

end Sys2Proof.Machine
end

