-- ==== Sys2Proof/Machine/TimeBase.lean ====
section
/-! DEFINITION. The time base (spec/05): its register writes, the tick, the device clock period, and the
meanings of TICK, HOLD_EXPIRY and WAIT_EXPIRY. -/

namespace Sys2Proof.Machine

/-- Device clock periods in one tick period (R80). -/
def TimeBase.period (t : TimeBase) : Nat :=
  (t.prescale.toNat + 1) * 64

/-- A write to TBCTRL (R80): only a write that repeats the values in force while running leaves the
current period undisturbed. -/
def TimeBase.writeCtrl (t : TimeBase) (w : Word) : TimeBase :=
  let run := w.getLsbD 0
  let prescale := w.extractLsb' 16 16
  if t.run && run && prescale == t.prescale then t
  else { t with run := run, prescale := prescale, prescalerCount := 0 }

/-- A write to TBNOW (R81): taken while halted, ignored while running. -/
def TimeBase.writeNow (t : TimeBase) (w : Word) : TimeBase :=
  if t.run then t else { t with now := w }

/-- A tick on one record of the pool (R82). -/
def PoolRecord.tick : PoolRecord → PoolRecord
  | .reservation c n => .reservation c n
  | .hold h => .hold { h with countdown := tickDown h.countdown }

/-- A tick on one client's wait record (R82). -/
def Client.tick (r : Client) : Client :=
  { r with wait := r.wait.map fun w => { w with countdown := tickDown w.countdown } }

/-- A tick (R80, R81, R82): the period ends, NOW is incremented, every armed countdown that is not due
is decremented. -/
def State.tick (s : State) : State :=
  let s := s.setTb { s.tb with now := s.tb.now + 1, prescalerCount := 0 }
  (s.setPool (s.pool.map PoolRecord.tick)).mapClients fun _ r => r.tick

/-- TICK (R81): while the time base is halted no tick occurs (R80). -/
def execTick (s : State) : Host.Outcome State Fault Refusal :=
  .next (if s.tb.run then s.tick else s)

/-- One device clock period (R80): while running, the prescaler count advances, and a tick occurs when it
reaches the tick period. -/
def State.clockPeriod (s : State) : State :=
  if s.tb.run then
    if s.tb.period ≤ s.tb.prescalerCount + 1 then s.tick
    else s.setTb { s.tb with prescalerCount := s.tb.prescalerCount + 1 }
  else s

/-- HOLD_EXPIRY (R87). -/
def execHoldExpiry (c : ClientId) (n : LockId) (s : State) : Host.Outcome State Fault Refusal :=
  .next (s.holdExpiryOp c n)

/-- WAIT_EXPIRY (R84). -/
def execWaitExpiry (c : ClientId) (s : State) : Host.Outcome State Fault Refusal :=
  .next (s.waitExpiryOp c)

end Sys2Proof.Machine
end

