-- ==== Sys2Proof/Machine/RegisterCommands.lean ====
section
/-! DEFINITION. The meanings of misused accesses (R128) and of the writes to registers that are not
commands of an agent or of the supervisor: REGISTER_WRITE, the gate, the time base, the pool-low
threshold and the flags of SFLAGS. -/

namespace Sys2Proof.Machine

/-- ACCESS_MISUSE (R128): ACCESS_ERR is set, a write is ignored, a read returns 0. -/
def execAccessMisuse (acc : BusAccess) (s : State) : Host.Outcome State Fault Refusal :=
  let s := s.raise fun f => { f with accessErr := true }
  match acc.write with
  | none => .next (s.setBusData 0)
  | some _ => .next s

/-- The threshold a write of NQCFG stores (R105, R160). -/
def thresholdOf (w : Word) : Fin 17 :=
  if fieldOf w 0 8 = 0 then 1 else clamp 16 (fieldOf w 0 8)

/-- A word write to a plain register (R160): its fields are stored, every other bit is ignored; a write
to a read-only register is ignored (R128). -/
def State.writePlain (s : State) (r : PlainReg) (w : Word) : State :=
  match r with
  | .waitlim a sl =>
    s.setClient (clientOf a sl) { s.client (clientOf a sl) with waitLimit := w.extractLsb' 0 16 }
  | .wincfg a => s.setWindow a { slot := Fin.ofNat 4 (fieldOf w 0 2), priority := Fin.ofNat 16 (fieldOf w 8 4) }
  | .nqcfg a => s.setNu a { s.nu a with threshold := thresholdOf w }
  | .aen a =>
    s.setNu a { s.nu a with noticeEn := w.getLsbD 0, lostEn := w.getLsbD 1, faultEn := w.getLsbD 2 }
  | .cfgA => s.setSu { s.su with cfgA := StagedA.ofWord w }
  | .cfgB => s.setSu { s.su with cfgB := StagedB.ofWord w }
  | .agcfg a =>
    s.setSu
      { s.su with agents := s.su.agents.set a { mask := w.extractLsb' 0 4, autoAttach := w.getLsbD 8 } }
  | .sen => s.setSu { s.su with enables := SupFlags.ofWord w, poolLowEn := w.getLsbD 8 }
  | .readOnly _ => s

/-- REGISTER_WRITE (R160). -/
def execRegisterWrite (r : PlainReg) (w : Word) (s : State) : Host.Outcome State Fault Refusal :=
  .next (s.writePlain r w)

/-- A write of the gate level (R70, R72): a raise starts the sweep, or sets AGAIN while it runs. -/
def State.writeGate (s : State) (w : Word) : State :=
  let g := clamp 16 (fieldOf w 0 8)
  let sweep : Sweep :=
    if s.su.gate < g then
      (if s.su.sweep.running then { s.su.sweep with again := true }
        else { running := true, position := 0, again := false })
    else s.su.sweep
  s.setSu { s.su with gate := g, sweep := sweep }

/-- GATE_WRITE (R72). -/
def execGateWrite (w : Word) (s : State) : Host.Outcome State Fault Refusal :=
  .next (s.writeGate w)

/-- TBCTRL_WRITE (R80). -/
def execTbctrlWrite (w : Word) (s : State) : Host.Outcome State Fault Refusal :=
  .next (s.setTb (s.tb.writeCtrl w))

/-- TBNOW_WRITE (R81). -/
def execTbnowWrite (w : Word) (s : State) : Host.Outcome State Fault Refusal :=
  .next (s.setTb (s.tb.writeNow w))

/-- POOLSTAT_WRITE (R33, R160): a threshold above 96 stores 96. -/
def execPoolstatWrite (w : Word) (s : State) : Host.Outcome State Fault Refusal :=
  .next (s.setSu { s.su with poolLowThreshold := clamp 96 (fieldOf w 16 8) })

/-- CLEAR_ACCESS_ERR (R144). -/
def execClearAccessErr (w : Word) (s : State) : Host.Outcome State Fault Refusal :=
  .next (s.writeSflags w)

/-- CLEAR_DENIAL (R147). -/
def execClearDenial (w : Word) (s : State) : Host.Outcome State Fault Refusal :=
  .next (s.writeSflags w)

/-- CLEAR_LOCK_DEAD (R144). -/
def execClearLockDead (w : Word) (s : State) : Host.Outcome State Fault Refusal :=
  .next (s.writeSflags w)

/-- CLEAR_JOB_DONE (R144). -/
def execClearJobDone (w : Word) (s : State) : Host.Outcome State Fault Refusal :=
  .next (s.writeSflags w)

/-- CLEAR_SWEEP_DONE (R144). -/
def execClearSweepDone (w : Word) (s : State) : Host.Outcome State Fault Refusal :=
  .next (s.writeSflags w)

end Sys2Proof.Machine
end

