-- ==== Sys2Proof/Machine/Views.lean ====
section
/-! DEFINITION. What a word read of each register returns (R131, R132, R157, R161, R162), the snapshots
of INSPECT_LOCK and INSPECT_CLIENT (R153, R154, R170), and the status words they share (R166). The
reads here have no side effect; the two that have one are the commands CLAIM_READ and NOTICE_POP. -/

namespace Sys2Proof.Machine

/-- CSTAT (R132, R166). -/
def State.cstatWord (s : State) (c : ClientId) : Word :=
  let mark := s.mark c
  let wait := (s.client c).wait
  bits 3 0 ++ bits 5 (s.clientCeiling c) ++ bits 1 0
    ++ flag wait.isSome ++ bits 6 (wait.elim 0 fun w => w.lock.val) ++ bits 1 0
    ++ flag mark.isSome ++ bits 6 (mark.elim 0 fun n => n.val)
    ++ bits 4 (s.heldList c).length ++ bits 2 0 ++ (s.client c).state.code

/-- NQSTAT (R96, R166). -/
def State.nqstatWord (s : State) (a : AgentId) : Word :=
  bits 14 0 ++ flag (s.nu a).lostRevoked ++ flag (s.nu a).lostWarned
    ++ bits 5 0 ++ bits 3 (s.nu a).reserved ++ bits 3 0 ++ bits 5 (s.nu a).queue.length

/-- AINFO (R132, R166). -/
def State.ainfoWord (s : State) (a : AgentId) : Word :=
  bits 20 0 ++ (s.agentConfig a).mask ++ bits 2 0 ++ (s.line a).attach.code ++ bits 1 0 ++ bits 3 a

/-- AFLAGS (R161). -/
def State.aflagsWord (s : State) (a : AgentId) : Word :=
  bits 29 0 ++ flag (s.nu a).multi ++ flag (s.nu a).fault ++ flag (s.nu a).lost

/-- AEN (R141, R161). -/
def State.aenWord (s : State) (a : AgentId) : Word :=
  bits 29 0 ++ flag (s.nu a).faultEn ++ flag (s.nu a).lostEn ++ flag (s.nu a).noticeEn

/-- WINCFG (R134, R161). -/
def State.wincfgWord (s : State) (a : AgentId) : Word :=
  bits 20 0 ++ bits 4 (s.window a).priority ++ bits 6 0 ++ bits 2 (s.window a).slot

/-- SWEEPSTAT (R74, R162). -/
def State.sweepstatWord (s : State) : Word :=
  bits 15 0 ++ flag s.su.sweep.again ++ bits 2 0 ++ bits 6 s.su.sweep.position ++ bits 7 0
    ++ flag s.su.sweep.running

/-- TBCTRL (R157, R162). -/
def State.tbctrlWord (s : State) : Word :=
  s.tb.prescale ++ bits 15 0 ++ flag s.tb.run

/-- POOLSTAT (R33, R162). -/
def State.poolstatWord (s : State) : Word :=
  bits 9 0 ++ bits 7 s.su.poolLowThreshold ++ bits 9 0 ++ bits 7 s.freeCount

/-- JOBSTAT (R112, R162). -/
def State.jobstatWord (s : State) : Word :=
  bits 12 0 ++ bits 4 s.waitingJobs.length
    ++ (match s.activeJob with
      | none => (0 : BitVec 16)
      | some j => flag true ++ bits 7 0 ++ encodeSlots j.job.set ++ bits 1 0 ++ bits 3 j.job.agent)

/-- AGCFG (R156, R162). -/
def State.agcfgWord (s : State) (a : AgentId) : Word :=
  bits 23 0 ++ flag (s.agentConfig a).autoAttach ++ bits 4 0 ++ (s.agentConfig a).mask

/-- AGSTATE (R156, R162). -/
def State.agstateWord (s : State) : Word :=
  let st (a : AgentId) := (s.line a).attach.code
  bits 16 0 ++ st 7 ++ st 6 ++ st 5 ++ st 4 ++ st 3 ++ st 2 ++ st 1 ++ st 0

/-- LINESTAT (R156, R162). -/
def State.linestatWord (s : State) : Word :=
  let level (a : AgentId) := flag (s.line a).asserted
  bits 24 0 ++ level 7 ++ level 6 ++ level 5 ++ level 4 ++ level 3 ++ level 2 ++ level 1 ++ level 0

/-- What a word read of a register of agent page `a` returns; none where the read is a command of its
own. ACMD reads 0 (R128). -/
def State.readAgentReg (s : State) (a : AgentId) : AgentReg → Option Word
  | .claim _ => none
  | .acmd => some 0
  | .result sl => some (s.client (clientOf a sl)).result.encode
  | .waitlim sl => some (bits 16 0 ++ (s.client (clientOf a sl)).waitLimit)
  | .cstat sl => some (s.cstatWord (clientOf a sl))
  | .notice => none
  | .npeek => some (encodeHead (s.nu a).queue.head?)
  | .nqstat => some (s.nqstatWord a)
  | .nqcfg => some (bits 32 (s.nu a).threshold)
  | .aflags => some (s.aflagsWord a)
  | .aen => some (s.aenWord a)
  | .faultrec => some (encodeFaultRecord (s.nu a).faultRecord)
  | .wincfg => some (s.wincfgWord a)
  | .ainfo => some (s.ainfoWord a)

/-- What a word read of a register of the control page returns. SCMD reads 0 (R149). -/
def State.readControlReg (s : State) : ControlReg → Word
  | .scmd => 0
  | .sresult => s.su.sresult.encode
  | .cfgA =>
    bits 8 0 ++ encodeCfgA s.su.cfgA.ceiling s.su.cfgA.domain s.su.cfgA.sharedOk s.su.cfgA.renewable s.su.cfgA.action
  | .cfgB => encodeCfgB s.su.cfgB.budget s.su.cfgB.grace
  | .inspect i => s.su.inspect.get i
  | .gate => bits 32 s.su.gate
  | .sweepstat => s.sweepstatWord
  | .tbctrl => s.tbctrlWord
  | .tbnow => s.tb.now
  | .poolstat => s.poolstatWord
  | .jobstat => s.jobstatWord
  | .agcfg a => s.agcfgWord a
  | .agstate => s.agstateWord
  | .linestat => s.linestatWord
  | .sflags => encodeSupFlags s.su.flags s.poolLow
  | .sen => encodeSupFlags s.su.enables s.su.poolLowEn
  | .denialrec => encodeDenialRecord s.su.denialRecord

/-- What a word read of a register returns; none where the read is CLAIM_READ or NOTICE_POP. -/
def State.readReg (s : State) : RegName → Option Word
  | .agent a r => s.readAgentReg a r
  | .control r => some (s.readControlReg r)

/-! ## Snapshots -/

/-- The exclusive holder a lock snapshot shows: in HELD and SUSPECT only (R153). -/
def State.exclusiveHolder (s : State) (n : LockId) : Option Hold :=
  if (s.lock n).state = .held ∨ (s.lock n).state = .suspect then (s.holders n).head? else none

/-- The exclusive holder part of INSPECT3, bits 23:16 (R170). -/
def encodeHolder : Option Hold → BitVec 8
  | none => 0
  | some h => flag h.warned ++ h.phase.bit ++ flag true ++ bits 5 h.client

/-- The head waiter part of INSPECT3, bits 31:24 (R170). -/
def encodeHeadWaiter : Option ClientId → BitVec 8
  | none => 0
  | some c => bits 2 0 ++ flag true ++ bits 5 c

/-- The snapshot of a lock (R153, R170). -/
def State.lockSnapshot (s : State) (n : LockId) : Vector Word 4 :=
  let l := s.lock n
  #v[l.generation.extractLsb' 0 8 ++ bits 3 0 ++ flag l.cleanPending ++ bits 1 0 ++ l.state.code ++ bits 2 0
      ++ bits 6 n ++ bits 6 0 ++ bits 2 1,
    l.generation.extractLsb' 8 8
      ++ encodeCfgA l.config.ceiling l.config.domain l.config.sharedOk l.config.renewable l.config.action.code,
    encodeCfgB l.config.budget l.config.grace,
    encodeHeadWaiter l.queue.head? ++ encodeHolder (s.exclusiveHolder n) ++ bits 3 0 ++ bits 5 l.queue.length
      ++ bits 2 0 ++ bits 6 (s.holders n).length]

/-- The snapshot of a client (R154, R170). -/
def State.clientSnapshot (s : State) (c : ClientId) : Vector Word 4 :=
  #v[bits 18 0 ++ bits 6 c ++ bits 6 0 ++ bits 2 2,
    s.cstatWord c,
    bits 25 0 ++ bits 7 (s.client c).revokedCount,
    0]

end Sys2Proof.Machine
end

