-- ==== Sys2Proof/Machine/SupervisorCommands.lean ====
section
/-! DEFINITION. The meanings of the supervisor commands written to SCMD (R149, R168), each with the
result the owning block gives, which the SU writes into SRESULT (R150). -/

namespace Sys2Proof.Machine

/-! ## Command codes (R168) -/

def cmdSetcfg : BitVec 4 := 1
def cmdOnline : BitVec 4 := 2
def cmdOffline : BitVec 4 := 3
def cmdRestore : BitVec 4 := 4
def cmdInspectLock : BitVec 4 := 5
def cmdInspectClient : BitVec 4 := 6
def cmdDetachClient : BitVec 4 := 7
def cmdDetachAgent : BitVec 4 := 8
def cmdAttach : BitVec 4 := 9
def cmdSoftReset : BitVec 4 := 10

/-! ## Lock commands (R2, R11, R12, R152) -/

/-- SETCFG (R2). -/
def execSetcfg (n : LockId) (s : State) : Host.Outcome State Fault Refusal :=
  .next (if (s.lock n).state = .offline then
      (s.setLock n { s.lock n with config := stagedConfig s.su.cfgA s.su.cfgB }).setSResult .done cmdSetcfg n
    else s.setSResult .notOffline cmdSetcfg n)

/-- ONLINE (R11). -/
def execOnline (n : LockId) (s : State) : Host.Outcome State Fault Refusal :=
  .next (if (s.lock n).state = .offline then
      (s.setLock n { s.lock n with state := .free }).setSResult .done cmdOnline n
    else s.setSResult .notOffline cmdOnline n)

/-- An OFFLINE claim at the LE (R11): the result, and the state the lock takes. -/
def offlineClaim (l : LockRecord) : SupResult × LockState :=
  match l.state with
  | .free => if l.queue.isEmpty then (.done, .offline) else (.busy, .free)
  | .orphaned => if l.queue.isEmpty then (.done, .offline) else (.busy, .orphaned)
  | .dead => if l.queue.isEmpty then (.done, .offline) else (.busy, .dead)
  | .offline => (.done, .offline)
  | .held => (.busy, .held)
  | .shared => (.busy, .shared)
  | .suspect => (.busy, .suspect)

/-- OFFLINE (R11). -/
def execOffline (n : LockId) (s : State) : Host.Outcome State Fault Refusal :=
  let r := offlineClaim (s.lock n)
  .next ((s.setLock n { s.lock n with state := r.2 }).setSResult r.1 cmdOffline n)

/-- RESTORE (R12). -/
def execRestore (n : LockId) (s : State) : Host.Outcome State Fault Refusal :=
  .next (if (s.lock n).state = .dead then
      (s.setLock n { s.lock n with state := .free }).setSResult .done cmdRestore n
    else s.setSResult .notDead cmdRestore n)

/-! ## Inspection (R153 to R155) -/

/-- The INSPECT registers take a snapshot (R155). -/
def State.setInspect (s : State) (v : Vector Word 4) : State :=
  s.setSu { s.su with inspect := v }

/-- INSPECT_LOCK (R153). -/
def execInspectLock (n : LockId) (s : State) : Host.Outcome State Fault Refusal :=
  .next ((s.setInspect (s.lockSnapshot n)).setSResult .done cmdInspectLock n)

/-- INSPECT_CLIENT (R154). -/
def execInspectClient (number : Fin 64) (s : State) : Host.Outcome State Fault Refusal :=
  let c := clientOfNumber number
  .next ((s.setInspect (s.clientSnapshot c)).setSResult .done cmdInspectClient (numberOfClient c))

/-! ## Detach and attach (R116, R117) -/

/-- DETACH_CLIENT (R116). -/
def execDetachClient (number : Fin 64) (s : State) : Host.Outcome State Fault Refusal :=
  let c := clientOfNumber number
  .next (if (s.client c).state = .ready ∨ (s.client c).state = .waiting then
      (s.detachRequest (agentOf c) (onlySlot (slotOf c)) .client).setSResult .done cmdDetachClient (numberOfClient c)
    else s.setSResult .already cmdDetachClient (numberOfClient c))

/-- DETACH_AGENT (R117). -/
def execDetachAgent (number : Fin 64) (s : State) : Host.Outcome State Fault Refusal :=
  let a := agentOfNumber number
  .next (match (s.line a).attach with
    | .attached => (s.detachRequest a everySlot .agent).setSResult .done cmdDetachAgent (numberOfAgent a)
    | .detaching => s.setSResult .already cmdDetachAgent (numberOfAgent a)
    | .detached => s.setSResult .doneEmpty cmdDetachAgent (numberOfAgent a))

/-- ATTACH (R117). -/
def execAttach (number : Fin 64) (s : State) : Host.Outcome State Fault Refusal :=
  let a := agentOfNumber number
  .next (match (s.line a).attach with
    | .attached => s.setSResult .already cmdAttach (numberOfAgent a)
    | .detaching => s.setSResult .busy cmdAttach (numberOfAgent a)
    | .detached =>
      if (s.line a).asserted then s.setSResult .lineHeld cmdAttach (numberOfAgent a)
      else (s.attachAgent a).setSResult .done cmdAttach (numberOfAgent a))

/-- BAD_COMMAND (R149): nothing but SRESULT changes; its number reads 0 (R150). -/
def execBadCommand (code : BitVec 4) (_number : Fin 64) (s : State) : Host.Outcome State Fault Refusal :=
  .next (s.setSResult .badCommand code 0)

end Sys2Proof.Machine
end

