-- ==== Sys2Proof/Machine/Resets.lean ====
section
/-! DEFINITION. The meanings of SOFT_RESET, block by block (R158), of POWER_ON_RESET (R1, R19, R112,
R159), and of the reset line edges (R113). -/

namespace Sys2Proof.Machine

/-! ## SOFT_RESET -/

/-- The state a lock takes (R14). -/
def LockState.afterSoftReset : LockState → LockState
  | .held => .orphaned
  | .suspect => .orphaned
  | .shared => .free
  | .free => .free
  | .orphaned => .orphaned
  | .dead => .dead
  | .offline => .offline

/-- The LE share on one lock (R14): configuration and generation are kept. -/
def LockRecord.softReset (l : LockRecord) : LockRecord :=
  { l with state := l.state.afterSoftReset, queue := [], cleanPending := false }

/-- The attach state an agent takes (R126). -/
def attachAfterSoftReset (autoAttach : Bool) (l : AgentLine) : AttachState :=
  match l.attach with
  | .attached => .attached
  | .detaching => if autoAttach && !l.asserted then .attached else .detached
  | .detached => .detached

/-- The state a client takes, from its agent's attach state after the reset (R28). -/
def clientAfterSoftReset (a : AttachState) : ClientState :=
  match a with
  | .attached => .ready
  | .detaching => .off
  | .detached => .off

/-- The CT share on one client (R28): the wait limit is kept. -/
def Client.softReset (r : Client) (a : AttachState) : Client :=
  { r with
    state := clientAfterSoftReset a
    wait := none
    lastWaitEnd := .none
    revoked := Vector.replicate 64 false
    result := ResultWord.noResult }

/-- The NU share on one agent (R111): threshold and enables are kept. -/
def AgentNotices.softReset (r : AgentNotices) : AgentNotices :=
  { r with
    queue := []
    reserved := 0
    lost := false
    lostWarned := false
    lostRevoked := false
    fault := false
    multi := false
    faultRecord := none }

/-- The SU share (R77, R148, R158). -/
def Supervisor.softReset (u : Supervisor) : Supervisor :=
  { u with
    sweep := { running := false, position := 0, again := false }
    flags := { u.flags with denial := false, lockDead := false, jobDone := false, sweepDone := false }
    denialRecord := none
    sresult := { result := .done, command := cmdSoftReset, number := 0 } }

/-- SOFT_RESET, every block's share in one happening (R158). Emptying the pool and the wait records
disarms every countdown (R95). -/
def State.softReset (s : State) : State :=
  let after (a : AgentId) := attachAfterSoftReset (s.agentConfig a).autoAttach (s.line a)
  let s := (s.mapLocks LockRecord.softReset).setPool []
  let s := s.mapClients fun c r => r.softReset (after (agentOf c))
  let s := s.mapNu AgentNotices.softReset
  let s := (s.setActiveJob none).setWaitingJobs []
  let s := s.mapLines fun a l => { l with attach := after a }
  s.setSu s.su.softReset

/-- SOFT_RESET (R158). -/
def execSoftReset (_number : Fin 64) (s : State) : Host.Outcome State Fault Refusal :=
  .next s.softReset

/-! ## POWER_ON_RESET -/

/-- The power-on line and attach state of an agent (R112). -/
def powerOnLine (levels : BitVec 8) (a : AgentId) : AgentLine where
  attach := if levels.getLsbD a then .detached else .attached
  asserted := levels.getLsbD a

/-- The power-on context of a client (R19). -/
def powerOnClient (levels : BitVec 8) (c : ClientId) : Client :=
  { Client.powerOn with state := if levels.getLsbD (agentOf c) then .off else .ready }

/-- Every piece of state at its power-on value, for the levels sampled at power-on (R1, R159). The
model's own queue of commands is no state of the part and is kept. -/
def State.powerOn (s : State) (levels : BitVec 8) : State :=
  let t := State.reset.mapClients fun c _ => powerOnClient levels c
  let t := t.mapLines fun a _ => powerOnLine levels a
  { t with pending := s.pending }

/-- POWER_ON_RESET (R1). -/
def execPowerOnReset (levels : BitVec 8) (s : State) : Host.Outcome State Fault Refusal :=
  .next (s.powerOn levels)

/-! ## Line edges -/

/-- RESET_ASSERTION (R113). -/
def execResetAssertion (a : AgentId) (s : State) : Host.Outcome State Fault Refusal :=
  .next (s.assertLine a)

/-- RESET_DEASSERTION (R113). -/
def execResetDeassertion (a : AgentId) (s : State) : Host.Outcome State Fault Refusal :=
  .next (s.deassertLine a)

end Sys2Proof.Machine
end

