-- ==== Sys2Proof/Machine/Dispatch.lean ====
section
/-! DEFINITION. The meaning of each command: one arm per constructor of `Instr`. -/

namespace Sys2Proof.Machine

def exec (i : Instr) (s : State) : Host.Outcome State Fault Refusal :=
  match i with
  | .acquire agent slot lock mode kind priority unused => Sys2Proof.Machine.execAcquire agent slot lock mode kind priority unused s
  | .release agent slot lock unused => Sys2Proof.Machine.execRelease agent slot lock unused s
  | .cancel agent slot unused => Sys2Proof.Machine.execCancel agent slot unused s
  | .renew agent slot lock unused => Sys2Proof.Machine.execRenew agent slot lock unused s
  | .markClean agent slot lock unused => Sys2Proof.Machine.execMarkClean agent slot lock unused s
  | .mail agent slot target payload unused => Sys2Proof.Machine.execMail agent slot target payload unused s
  | .badOpcode agent slot opcode unused => Sys2Proof.Machine.execBadOpcode agent slot opcode unused s
  | .claimRead agent lock => Sys2Proof.Machine.execClaimRead agent lock s
  | .claimWrite agent lock data => Sys2Proof.Machine.execClaimWrite agent lock data s
  | .noticePop agent => Sys2Proof.Machine.execNoticePop agent s
  | .clearLost agent written => Sys2Proof.Machine.execClearLost agent written s
  | .clearFault agent written => Sys2Proof.Machine.execClearFault agent written s
  | .clearMulti agent written => Sys2Proof.Machine.execClearMulti agent written s
  | .accessMisuse access => Sys2Proof.Machine.execAccessMisuse access s
  | .registerWrite reg written => Sys2Proof.Machine.execRegisterWrite reg written s
  | .setcfg lock => Sys2Proof.Machine.execSetcfg lock s
  | .online lock => Sys2Proof.Machine.execOnline lock s
  | .offline lock => Sys2Proof.Machine.execOffline lock s
  | .restore lock => Sys2Proof.Machine.execRestore lock s
  | .inspectLock lock => Sys2Proof.Machine.execInspectLock lock s
  | .inspectClient number => Sys2Proof.Machine.execInspectClient number s
  | .detachClient number => Sys2Proof.Machine.execDetachClient number s
  | .detachAgent number => Sys2Proof.Machine.execDetachAgent number s
  | .attach number => Sys2Proof.Machine.execAttach number s
  | .softReset number => Sys2Proof.Machine.execSoftReset number s
  | .badCommand code number => Sys2Proof.Machine.execBadCommand code number s
  | .gateWrite written => Sys2Proof.Machine.execGateWrite written s
  | .tbctrlWrite written => Sys2Proof.Machine.execTbctrlWrite written s
  | .tbnowWrite written => Sys2Proof.Machine.execTbnowWrite written s
  | .poolstatWrite written => Sys2Proof.Machine.execPoolstatWrite written s
  | .clearAccessErr written => Sys2Proof.Machine.execClearAccessErr written s
  | .clearDenial written => Sys2Proof.Machine.execClearDenial written s
  | .clearLockDead written => Sys2Proof.Machine.execClearLockDead written s
  | .clearJobDone written => Sys2Proof.Machine.execClearJobDone written s
  | .clearSweepDone written => Sys2Proof.Machine.execClearSweepDone written s
  | .powerOnReset levels => Sys2Proof.Machine.execPowerOnReset levels s
  | .resetAssertion agent => Sys2Proof.Machine.execResetAssertion agent s
  | .resetDeassertion agent => Sys2Proof.Machine.execResetDeassertion agent s
  | .tick => Sys2Proof.Machine.execTick s
  | .holdExpiry client lock => Sys2Proof.Machine.execHoldExpiry client lock s
  | .waitExpiry client => Sys2Proof.Machine.execWaitExpiry client s
  | .sweepStep => Sys2Proof.Machine.execSweepStep s
  | .waitStep => Sys2Proof.Machine.execWaitStep s
  | .holdStep => Sys2Proof.Machine.execHoldStep s
  | .flushStep => Sys2Proof.Machine.execFlushStep s
  | .clientJobFinalStep => Sys2Proof.Machine.execClientJobFinalStep s
  | .agentJobFinalStep => Sys2Proof.Machine.execAgentJobFinalStep s

end Sys2Proof.Machine
end

