-- ==== Sys2Proof/Safety.lean ====
section
/-! DEFINITION. What counts as a sound state of the part: the laws the spec states of every state
between happenings. And the terms the statements speak in: what it is for a command to be answered,
for a hold to be removed, for a wait to end. -/

namespace Sys2Proof.Machine

/-! ## The lock table (R3, R4, R5, R61) -/

/-- The holders set agrees with the state (R3). -/
def holdersAgree (st : LockState) (holders : List Hold) : Prop :=
  match st with
  | .held => holders.map Hold.mode = [.exclusive]
  | .suspect => holders.map Hold.mode = [.exclusive]
  | .shared => holders ≠ [] ∧ ∀ h ∈ holders, h.mode = .shared
  | .free => holders = []
  | .orphaned => holders = []
  | .offline => holders = []
  | .dead => holders = []

/-- The laws of one lock record: R3, R4 and R5, and the bound of R61. -/
def State.LockSound (s : State) (n : LockId) : Prop :=
  holdersAgree (s.lock n).state (s.holders n)
    ∧ ((s.lock n).state = .offline ∨ (s.lock n).state = .dead → (s.lock n).queue = [])
    ∧ ((s.lock n).cleanPending = true ↔ (s.lock n).state = .suspect)
    ∧ (s.lock n).queue.length ≤ Config.waitersPerLock

/-- The laws of the lock table. -/
def State.LocksSound (s : State) : Prop :=
  ∀ n, s.LockSound n

/-! ## Waits (R20, R21, R29, R31, R59, R60, R96) -/

/-- Client `c` has a wait record for lock `n`. -/
def State.WaitsOn (s : State) (c : ClientId) (n : LockId) : Prop :=
  (s.client c).wait.map WaitRecord.lock = some n

/-- The number of an agent's clients that have a wait record (R96). -/
def State.waitCount (s : State) (a : AgentId) : Nat :=
  allSlots.countP fun sl => (s.client (clientOf a sl)).wait.isSome

/-- Queues, wait records, reservations and reserved slots tell the same story: a queue lists exactly the
clients whose wait record names its lock, once each and in the order of R59; a reservation stands in
the pool for each wait record and no other; the reserved count counts the wait records. -/
def State.WaitsSound (s : State) : Prop :=
  (∀ n c, c ∈ (s.lock n).queue ↔ s.WaitsOn c n)
    ∧ (∀ n, (s.lock n).queue.Nodup)
    ∧ (∀ n, (s.lock n).queue.Pairwise fun c d => s.waitPriority c ≤ s.waitPriority d)
    ∧ (∀ c n, s.pool.count (.reservation c n) = if (s.client c).wait.map WaitRecord.lock = some n then 1 else 0)
    ∧ (∀ a, (s.nu a).reserved = s.waitCount a)

/-- The client states agree with the wait records and the holds (R20). -/
def State.ClientsSound (s : State) : Prop :=
  ∀ c,
    ((s.client c).state = .waiting → (s.client c).wait.isSome = true)
      ∧ ((s.client c).state = .ready → (s.client c).wait = none)
      ∧ ((s.client c).state = .off → (s.client c).wait = none ∧ s.heldList c = [])

/-! ## The hold pool (R22, R25, R31) -/

/-- Never more than 96 records in use, nor more than 8 holds of a client counting the hold its wait may
become, nor two holds of a client on one lock, nor a revoked entry or a wait for a lock the client
holds. -/
def State.PoolSound (s : State) : Prop :=
  s.pool.length ≤ Config.poolSize
    ∧ (∀ c, (s.heldList c).length + (if (s.client c).wait.isSome then 1 else 0) ≤ Config.holdsPerClient)
    ∧ (∀ c, ((s.heldList c).map Hold.lock).Nodup)
    ∧ (∀ c n, (s.findHold c n).isSome = true → s.inRevoked c n = false ∧ ¬ s.WaitsOn c n)

/-! ## Notices and flags (R96, R97, R138, R140, R146) -/

/-- The laws of every agent's notice state: the sum of R97, the threshold, and which flags and records
go together. -/
def State.NoticesSound (s : State) : Prop :=
  ∀ a,
    s.slotsTaken a ≤ Config.noticeDepth
      ∧ 1 ≤ (s.nu a).threshold.val
      ∧ ((s.nu a).fault = (s.nu a).faultRecord.isSome)
      ∧ ((s.nu a).multi = true → (s.nu a).fault = true)
      ∧ ((s.nu a).lost = ((s.nu a).lostWarned || (s.nu a).lostRevoked))

/-- The denial record is full exactly while DENIAL is set (R146). -/
def State.DenialSound (s : State) : Prop :=
  s.su.flags.denial = s.su.denialRecord.isSome

/-! ## Rank (R69) -/

/-- For as long as a client waits, the lock it waits on ranks above every lock it holds. -/
def State.RankSound (s : State) : Prop :=
  ∀ c n, s.WaitsOn c n → ∀ h ∈ s.heldList c, s.ranksAbove n h.lock = true

/-- Client `c` waits on a lock that client `d` holds (R69). -/
def State.WaitsFor (s : State) (c d : ClientId) : Prop :=
  ∃ n, s.WaitsOn c n ∧ (s.findHold d n).isSome = true

/-! ## Reclaim jobs (R112, R115) -/

/-- Every job, the ACTIVE one first. -/
def State.jobs (s : State) : List Job :=
  (s.activeJob.map ActiveJob.job).toList ++ s.waitingJobs

/-- The client is a named client of the job. -/
def Job.names (j : Job) (c : ClientId) : Prop :=
  j.agent = agentOf c ∧ j.named.get (slotOf c) = true

/-- The client has neither a wait record nor a hold. -/
def State.Stripped (s : State) (c : ClientId) : Prop :=
  (s.client c).wait = none ∧ s.heldList c = []

/-- The ACTIVE job (R112, R118 to R120): its set lies within its named clients and every named client
that has left the set is stripped; the position stands at the lowest slot of the set, in a phase its
client has come to, or at the final step when the set is empty. -/
def State.ActiveSound (s : State) (x : ActiveJob) : Prop :=
  (∀ sl, x.job.set.get sl = true → x.job.named.get sl = true)
    ∧ (∀ sl, x.job.named.get sl = true → x.job.set.get sl = false → s.Stripped (clientOf x.job.agent sl))
    ∧ (match x.position with
      | .final => firstPosition x.job.set = .final
      | .step sl .wait => firstPosition x.job.set = .step sl .wait
      | .step sl .hold =>
        firstPosition x.job.set = .step sl .wait ∧ (s.client (clientOf x.job.agent sl)).wait = none
      | .step sl .flush =>
        firstPosition x.job.set = .step sl .wait ∧ s.Stripped (clientOf x.job.agent sl))
    ∧ (∀ j ∈ s.waitingJobs, j.agent = x.job.agent →
        x.job.scope = .client ∧ ∀ sl, ¬ (j.named.get sl = true ∧ x.job.named.get sl = true))

/-- The attach states, the client states and the jobs agree (R112, R115). -/
def State.JobsSound (s : State) : Prop :=
  (∀ a, (s.line a).attach = .detaching ↔ ∃ j ∈ s.jobs, j.agent = a ∧ j.scope = .agent)
    ∧ (∀ c, (s.client c).state = .detaching ↔ ∃ j ∈ s.jobs, j.names c)
    ∧ (∀ c, (s.line (agentOf c)).attach = .detaching → (s.client c).state = .detaching)
    ∧ (∀ c, (s.line (agentOf c)).attach = .detached ↔ (s.client c).state = .off)
    ∧ (∀ a, (s.line a).attach = .attached → (s.line a).asserted = false)
    ∧ (s.waitingJobs.map Job.agent).Nodup
    ∧ (∀ j ∈ s.waitingJobs, j.set = j.named)
    ∧ (s.activeJob = none → s.waitingJobs = [])
    ∧ (∀ x, s.activeJob = some x → s.ActiveSound x)

/-! ## No grantable waiter (R78) -/

/-- Grant evaluation would grant nothing on the lock. -/
def State.Settled (s : State) (n : LockId) : Prop :=
  s.waitersToGrant n = []

/-- While the sweep is idle no lock has a waiter that grant evaluation would grant (R78); while it runs
with AGAIN clear, none of the locks it has passed has one. -/
def State.SweepSound (s : State) : Prop :=
  (s.su.sweep.running = false → ∀ n, s.Settled n)
    ∧ (s.su.sweep.running = true → s.su.sweep.again = false → ∀ n, n < s.su.sweep.position → s.Settled n)

/-! ## All of them -/

/-- A sound state: every law above. -/
structure State.Sound (s : State) : Prop where
  locks : s.LocksSound
  waits : s.WaitsSound
  clients : s.ClientsSound
  pool : s.PoolSound
  notices : s.NoticesSound
  denial : s.DenialSound
  rank : s.RankSound
  jobs : s.JobsSound
  sweep : s.SweepSound

/-! ## Commands that only the supervisor registers see -/

/-- `t` is `s` with a supervisor result given and nothing else changed (R150). -/
def State.Reported (t s : State) (r : SupResult) (code : BitVec 4) (number : Nat) : Prop :=
  t = { s with su := t.su }
    ∧ t.su = { s.su with sresult := t.su.sresult }
    ∧ t.su.sresult.result = r
    ∧ t.su.sresult.command = code
    ∧ t.su.sresult.number.val = number

/-! ## The answer to an agent command (R27, R36, R138, R146) -/

/-- The agent's fault record and flags after the result `r` is given: a fault is captured when FAULT is
clear and sets MULTI otherwise; an outcome changes nothing (R138). -/
def State.FaultOffered (t s : State) (o : Origin) (r : Result) : Prop :=
  (∀ a, a ≠ o.agent → t.nu a = s.nu a)
    ∧ t.nu o.agent =
      if r.isFault = true then
        if (s.nu o.agent).fault = true then { s.nu o.agent with multi := true }
        else
          { s.nu o.agent with
            fault := true
            faultRecord := some { window := o.window, command := o.command, fault := r } }
      else s.nu o.agent

/-- The denial record and DENIAL after the result `r` is given for lock `n` (R146). -/
def State.DenialOffered (t s : State) (o : Origin) (r : Result) (n : LockId) : Prop :=
  t.su =
    if r = .denied ∧ s.su.denialRecord = none then
      { s.su with
        flags := { s.su.flags with denial := true }
        denialRecord :=
          some { agent := o.agent, slot := o.slot, lock := n, domain := (s.lock n).config.domain } }
    else s.su

/-- `t` is `s` with a command answered and nothing else changed: the client's result register holds the
result word, and a fault is recorded. -/
def State.Answered (t s : State) (o : Origin) (r : Result) (n : LockId) (g : BitVec 16) : Prop :=
  t.client o.client = { s.client o.client with result := { result := r, slot := o.slot, lock := n, generation := g } }
    ∧ (∀ d, d ≠ o.client → t.client d = s.client d)
    ∧ t.FaultOffered s o r
    ∧ t.DenialOffered s o r n
    ∧ t = { s with clients := t.clients, notices := t.notices, su := t.su }

/-- Where an agent command comes from (R129, R138): the page and slot of an ACMD word, or the window
client of a claim-window access; none for every other command. -/
def State.originOf (s : State) : Instr → Option Origin
  | .acquire a sl n m k p unused => some (Origin.acmd a sl (acquireWord sl n m k p unused))
  | .release a sl n unused => some (Origin.acmd a sl (lockWord opRelease sl n unused))
  | .cancel a sl unused => some (Origin.acmd a sl (bareWord opCancel sl unused))
  | .renew a sl n unused => some (Origin.acmd a sl (lockWord opRenew sl n unused))
  | .markClean a sl n unused => some (Origin.acmd a sl (lockWord opMarkClean sl n unused))
  | .mail a sl target payload unused => some (Origin.acmd a sl (mailWord sl target payload unused))
  | .badOpcode a sl opcode unused => some (Origin.acmd a sl (bareWord opcode sl unused))
  | .claimRead a n => some (Origin.claimRead a (s.window a) n)
  | .claimWrite a n _ => some (Origin.claimWrite a (s.window a) n)
  | _ => none

/-! ## ACQUIRE (R38 to R43) -/

/-- The result of the first check that applies. -/
def firstApplying (checks : List (Bool × Result)) : Option Result :=
  (checks.find? Prod.fst).map Prod.snd

/-- The lock's state and configuration admit a grant of the mode at once (R40, without the waiters). -/
def admits (l : LockRecord) (m : Mode) : Bool :=
  match m with
  | .exclusive => l.state == .free || l.state == .orphaned
  | .shared => (l.state == .free || l.state == .shared) && l.config.sharedOk

/-- A request of mode `m` and priority `p` is grantable at once: not gated, admitted by the lock, and no
eligible waiter is queued (R39, R40). -/
def State.grantableNow (s : State) (n : LockId) (m : Mode) (p : Priority) : Bool :=
  decide (p.val < s.su.gate.val) && admits (s.lock n) m && (s.eligibleWaiters n).isEmpty

/-- Every check that can refuse an ACQUIRE, in order, each with its result: the ten of R38, the gate of
R39, the pool for a grant (R40), and step 13 (R41, R61). -/
def State.acquireChecks (s : State) (a : AgentId) (c : ClientId) (n : LockId) (m : Mode) (k : Kind)
    (p : Priority) : List (Bool × Result) :=
  let now := s.grantableNow n m p
  [((s.client c).state == .off, .clientOff),
    ((s.client c).state == .detaching, .detaching),
    ((s.client c).state == .waiting, .clientWaiting),
    ((s.lock n).state == .offline, .lockOffline),
    (!(s.agentConfig a).mask.getLsbD (s.lock n).config.domain, .denied),
    ((s.lock n).state == .dead, .dead),
    ((s.heldList c).any fun h => h.lock == n, .selfHeld),
    (m == .shared && !(s.lock n).config.sharedOk, .noShared),
    (decide (8 ≤ (s.heldList c).length), .holdLimit),
    (k == .wait && (s.heldList c).any fun h => !s.ranksAbove n h.lock, .order),
    (k == .tryOnce && decide (s.su.gate.val ≤ p.val), .gated),
    (now && decide (s.freeCount = 0), .noSpace),
    (!now && k == .tryOnce, .busy),
    (!now && decide (31 ≤ (s.lock n).queue.length), .busy),
    (!now && decide (16 ≤ (s.nu a).queue.length + (s.nu a).reserved), .queueFull),
    (!now && decide (s.freeCount = 0), .noSpace)]

/-- A countdown armed to a configured value; 0 leaves it unarmed (R21, R86). -/
def armedTo (v : BitVec 16) : Countdown :=
  if v = 0 then none else some v

/-- A hold as a grant creates it (R16, R86): the full budget, not warned. -/
def State.newHold (s : State) (c : ClientId) (n : LockId) (m : Mode) (g : BitVec 16) : Hold where
  client := c
  lock := n
  mode := m
  generation := g
  countdown := armedTo (s.lock n).config.budget
  phase := .budget
  warned := false

/-- The lock state after a grant of the mode (R6). -/
def grantedState (st : LockState) (m : Mode) : LockState :=
  if m = .shared then .shared else if st = .orphaned then .suspect else .held

/-- `t` is `s` with the request granted at once and answered (R42), and nothing else changed. -/
def State.GrantedAtOnce (t s : State) (o : Origin) (n : LockId) (m : Mode) : Prop :=
  let c := o.client
  let l := s.lock n
  ∃ u : State,
    u.pool = s.pool ++ [.hold (s.newHold c n m (l.generation + 1))]
      ∧ u.lock n =
        { l with
          state := grantedState l.state m
          generation := l.generation + 1
          cleanPending := l.state == .orphaned }
      ∧ (∀ k, k ≠ n → u.lock k = s.lock k)
      ∧ u.client c = { s.client c with revoked := (s.client c).revoked.set n false }
      ∧ (∀ d, d ≠ c → u.client d = s.client d)
      ∧ u = { s with locks := u.locks, pool := u.pool, clients := u.clients }
      ∧ t.Answered u o (if l.state = .orphaned then .okSuspect else .ok) n (l.generation + 1)

/-- `t` is `s` with the WAIT queued and answered WAITING (R43, steps 1 to 6; the place is that of R60),
then grant evaluation run on the lock (step 7), and nothing else changed. -/
def State.Queued (t s : State) (o : Origin) (n : LockId) (m : Mode) (p : Priority) : Prop :=
  let c := o.client
  ∃ (u : State) (ahead behind : List ClientId),
    (s.lock n).queue = ahead ++ behind
      ∧ (∀ d, ahead.getLast? = some d → s.waitPriority d ≤ p)
      ∧ (∀ d ∈ behind, p < s.waitPriority d)
      ∧ u.lock n = { s.lock n with queue := ahead ++ c :: behind }
      ∧ (∀ k, k ≠ n → u.lock k = s.lock k)
      ∧ u.pool = s.pool ++ [.reservation c n]
      ∧ u.nu o.agent = { s.nu o.agent with reserved := (s.nu o.agent).reserved + 1 }
      ∧ (∀ a, a ≠ o.agent → u.nu a = s.nu a)
      ∧ u.client c =
        { s.client c with
          state := .waiting
          lastWaitEnd := .none
          wait := some { lock := n, mode := m, priority := p, countdown := armedTo (s.client c).waitLimit }
          result := { result := .waiting, slot := o.slot, lock := n, generation := 0 } }
      ∧ (∀ d, d ≠ c → u.client d = s.client d)
      ∧ u = { s with locks := u.locks, pool := u.pool, clients := u.clients, notices := u.notices }
      ∧ t = u.grantEval n

/-- `t` is what an ACQUIRE leaves of `s` (R38): refused by the first check that applies, granted at once,
or queued. -/
def State.AcquireTaken (t s : State) (o : Origin) (n : LockId) (m : Mode) (k : Kind) (p : Priority) : Prop :=
  match firstApplying (s.acquireChecks o.agent o.client n m k p) with
  | some r => t.Answered s o r n 0
  | none => if s.grantableNow n m p = true then t.GrantedAtOnce s o n m else t.Queued s o n m p

/-! ## Grant evaluation and the DEAD flush, in closed form -/

/-- The mode a client waits for. -/
def State.waitMode (s : State) (c : ClientId) : Mode :=
  (s.client c).wait.elim .exclusive WaitRecord.mode

/-- The pool with the reservations of the clients for the lock returned. -/
def withoutReservations (n : LockId) (cs : List ClientId) (p : List PoolRecord) : List PoolRecord :=
  cs.foldl (fun p c => p.erase (.reservation c n)) p

/-- The state after the waiters `grants`, no one of them twice, are granted lock `n` in that order (R46,
R47): the i-th grantee, counting from 1, receives the lock's generation plus i. -/
def State.afterGrants (s : State) (n : LockId) (grants : List ClientId) : State :=
  let l := s.lock n
  let suspect := l.state == .orphaned
  let numbered := grants.zipIdx 1
  let generation (i : Nat) : BitVec 16 := l.generation + BitVec.ofNat 16 i
  { s with
    locks :=
      match grants with
      | [] => s.locks
      | c :: _ =>
        s.locks.set n
          { l with
            state := grantedState l.state (s.waitMode c)
            queue := l.queue.filter fun d => !grants.contains d
            generation := generation grants.length
            cleanPending := suspect }
    pool :=
      withoutReservations n grants s.pool
        ++ numbered.map fun g => .hold (s.newHold g.1 n (s.waitMode g.1) (generation g.2))
    clients :=
      Vector.ofFn fun c =>
        if grants.contains c then
          { s.client c with
            state := .ready
            wait := none
            lastWaitEnd := .granted
            revoked := (s.client c).revoked.set n false }
        else s.client c
    notices :=
      Vector.ofFn fun a =>
        { s.nu a with
          queue :=
            (s.nu a).queue
              ++ (numbered.filter fun g => agentOf g.1 == a).map fun g =>
                .granted (slotOf g.1) n (s.waitMode g.1) suspect (generation g.2)
          reserved := (s.nu a).reserved - grants.countP fun c => agentOf c == a } }

/-- The state after every entry of the queue of lock `n` is flushed in queue order (R13). -/
def State.afterFlush (s : State) (n : LockId) : State :=
  let q := (s.lock n).queue
  let reported := q.filter fun c => (s.client c).state != .detaching
  { s with
    locks := s.locks.set n { s.lock n with queue := [] }
    pool := withoutReservations n q s.pool
    clients :=
      Vector.ofFn fun c =>
        if q.contains c then
          { s.client c with
            state := if (s.client c).state = .detaching then .detaching else .ready
            wait := none
            lastWaitEnd := .flushed }
        else s.client c
    notices :=
      Vector.ofFn fun a =>
        { s.nu a with
          queue :=
            (s.nu a).queue
              ++ (reported.filter fun c => agentOf c == a).map fun c => .waitEnded (slotOf c) n .dead
          reserved := (s.nu a).reserved - q.countP fun c => agentOf c == a } }

/-! ## Holds and waits that end -/

/-- `u` is `s` with a hold removed and nothing else changed (R7, R10): its record is free, and its lock
takes the state `alone` when the hold was EXCLUSIVE, else SHARED or FREE as holds remain or not. -/
def State.HoldRemoved (u s : State) (h : Hold) (alone : LockState) : Prop :=
  u.pool = s.pool.erase (.hold h)
    ∧ u.lock h.lock =
      { s.lock h.lock with
        state :=
          if h.mode = .exclusive then alone else if 2 ≤ (s.holders h.lock).length then .shared else .free
        cleanPending := false }
    ∧ (∀ m, m ≠ h.lock → u.lock m = s.lock m)
    ∧ u = { s with locks := u.locks, pool := u.pool }

/-- `u` is `s` with the wait of a client on a lock ended and nothing else changed (R63): the entry and the
wait record are gone, the reservation is returned and one reserved slot of the agent given up; the
client takes the state and last-wait-end given, and the notice given, if any, is appended. -/
def State.WaitEnded (u s : State) (c : ClientId) (n : LockId) (st : ClientState) (e : WaitEnd)
    (notice : Option Notice) : Prop :=
  u.client c = { s.client c with state := st, wait := none, lastWaitEnd := e }
    ∧ (∀ d, d ≠ c → u.client d = s.client d)
    ∧ u.lock n = { s.lock n with queue := (s.lock n).queue.erase c }
    ∧ (∀ m, m ≠ n → u.lock m = s.lock m)
    ∧ u.pool = s.pool.erase (.reservation c n)
    ∧ u.nu (agentOf c) =
      { s.nu (agentOf c) with
        queue := (s.nu (agentOf c)).queue ++ notice.toList
        reserved := (s.nu (agentOf c)).reserved - 1 }
    ∧ (∀ a, a ≠ agentOf c → u.nu a = s.nu a)
    ∧ u = { s with locks := u.locks, pool := u.pool, clients := u.clients, notices := u.notices }

/-- `u` is `s` with the notice that a hold was revoked, or else warned, passed to the NU and nothing else
changed (R88): discarded for a DETACHING client, else appended where used + reserved < 16, else
dropped with LOST and the kind's member of LOST_KINDS set. -/
def State.NoticePassed (u s : State) (h : Hold) (revoked : Bool) : Prop :=
  let a := agentOf h.client
  (∀ b, b ≠ a → u.nu b = s.nu b)
    ∧ (u.nu a =
      if (s.client h.client).state = .detaching then s.nu a
      else if (s.nu a).queue.length + (s.nu a).reserved < 16 then
        { s.nu a with
          queue :=
            (s.nu a).queue
              ++ [if revoked then .revoked (slotOf h.client) h.lock h.generation
                else .warned (slotOf h.client) h.lock h.generation] }
      else
        { s.nu a with
          lost := true
          lostWarned := (s.nu a).lostWarned || !revoked
          lostRevoked := (s.nu a).lostRevoked || revoked })
    ∧ u = { s with notices := u.notices }

/-- The pool with one change made to the hold of a client on a lock. -/
def changeHold (c : ClientId) (n : LockId) (f : Hold → Hold) (p : List PoolRecord) : List PoolRecord :=
  p.map fun r =>
    match r with
    | .reservation c' n' => .reservation c' n'
    | .hold h => .hold (if h.client = c ∧ h.lock = n then f h else h)

/-! ## RELEASE, MARK_CLEAN, CANCEL, RENEW, MAIL -/

/-- The first three checks of RELEASE, MARK_CLEAN and RENEW (R49, R53, R91). -/
def State.holderChecks (s : State) (c : ClientId) (n : LockId) : List (Bool × Result) :=
  [((s.client c).state == .off, .clientOff),
    ((s.client c).state == .detaching, .detaching),
    ((s.lock n).state == .offline, .lockOffline)]

/-- The checks of MARK_CLEAN and RENEW that apply when the client has no hold on the lock; `earlier` is
what a revoked entry is answered. -/
def State.noHoldChecks (s : State) (a : AgentId) (c : ClientId) (n : LockId) (earlier : Result) :
    List (Bool × Result) :=
  let none := (s.heldList c).all fun h => h.lock != n
  [(none && (s.client c).revoked.get n, earlier),
    (none && !(s.agentConfig a).mask.getLsbD (s.lock n).config.domain, .denied),
    (none, .notHolder)]

/-- `u` is `s` with one lock record changed and nothing else. -/
def State.LockChanged (u s : State) (n : LockId) (l : LockRecord) : Prop :=
  u.lock n = l ∧ (∀ k, k ≠ n → u.lock k = s.lock k) ∧ u = { s with locks := u.locks }

/-- `u` is `s` with one client context changed and nothing else. -/
def State.ClientChanged (u s : State) (c : ClientId) (r : Client) : Prop :=
  u.client c = r ∧ (∀ d, d ≠ c → u.client d = s.client d) ∧ u = { s with clients := u.clients }

/-- `u` is `s` with one agent's notice state changed and nothing else. -/
def State.NuChanged (u s : State) (a : AgentId) (r : AgentNotices) : Prop :=
  u.nu a = r ∧ (∀ b, b ≠ a → u.nu b = s.nu b) ∧ u = { s with notices := u.notices }

/-- `t` is what a RELEASE leaves of `s` (R49 to R51, R7, R8). -/
def State.ReleaseTaken (t s : State) (o : Origin) (n : LockId) : Prop :=
  let c := o.client
  match firstApplying (s.holderChecks c n) with
  | some r => t.Answered s o r n 0
  | none =>
    match s.findHold c n with
    | none =>
      if (s.client c).revoked.get n = true then
        ∃ u : State,
          u.ClientChanged s c { s.client c with revoked := (s.client c).revoked.set n false }
            ∧ t.Answered u o .revokedEarlier n 0
      else if (s.agentConfig o.agent).mask.getLsbD (s.lock n).config.domain = false then
        t.Answered s o .denied n 0
      else t.Answered s o .notHolder n 0
    | some h =>
      if (s.lock n).state = .suspect ∧ (s.lock n).cleanPending = true then
        ∃ u v : State,
          u.LockChanged { s with pool := s.pool.erase (.hold h) } n
              { s.lock n with state := .dead, cleanPending := false }
            ∧ v = { u.deadFlush n with su := { s.su with flags := { s.su.flags with lockDead := true } } }
            ∧ t.Answered v o .releasedDead n h.generation
      else ∃ u : State, u.HoldRemoved s h .free ∧ t.Answered (u.grantEval n) o .released n h.generation

/-- `t` is what a MARK_CLEAN leaves of `s` (R53, R9). -/
def State.MarkCleanTaken (t s : State) (o : Origin) (n : LockId) : Prop :=
  let c := o.client
  match firstApplying
      (s.holderChecks c n ++ s.noHoldChecks o.agent c n .notHolder
        ++ [((s.lock n).state != .suspect, .notSuspect)]) with
  | some r => t.Answered s o r n 0
  | none =>
    ∃ (h : Hold) (u : State), s.findHold c n = some h
      ∧ u.LockChanged s n { s.lock n with state := .held, cleanPending := false }
      ∧ t.Answered u o .cleaned n h.generation

/-- `t` is what a RENEW leaves of `s` (R91). -/
def State.RenewTaken (t s : State) (o : Origin) (n : LockId) : Prop :=
  let c := o.client
  let l := (s.lock n).config
  match firstApplying
      (s.holderChecks c n ++ s.noHoldChecks o.agent c n .revokedEarlier
        ++ [(!l.renewable || l.budget == 0, .notRenewable)]) with
  | some r => t.Answered s o r n 0
  | none =>
    ∃ h, s.findHold c n = some h
      ∧ t.Answered
        { s with
          pool :=
            changeHold c n (fun h => { h with countdown := some l.budget, phase := .budget, warned := false })
              s.pool }
        o .renewed n h.generation

/-- `t` is what a CANCEL leaves of `s` (R54, R55). -/
def State.CancelTaken (t s : State) (o : Origin) : Prop :=
  let c := o.client
  match (s.client c).state with
  | .off => t.Answered s o .clientOff 0 0
  | .detaching => t.Answered s o .detaching 0 0
  | .waiting =>
    ∀ w, (s.client c).wait = some w →
      ∃ u v : State, u.WaitEnded s c w.lock .ready .cancelled none
        ∧ v.Answered u o .cancelled w.lock 0
        ∧ t = v.grantEval w.lock
  | .ready =>
    if (s.client c).lastWaitEnd = .none ∨ (s.client c).lastWaitEnd = .cancelled then
      t.Answered s o .notWaiting 0 0
    else t.Answered s o .tooLate 0 0

/-- The checks of a MAIL, in order (R107, steps 1 to 4). -/
def State.mailChecks (s : State) (c : ClientId) (target : AgentId) : List (Bool × Result) :=
  [((s.client c).state == .off, .clientOff),
    ((s.client c).state == .detaching, .detaching),
    ((s.line target).attach != .attached, .targetOff),
    (decide (16 ≤ (s.nu target).queue.length + (s.nu target).reserved), .queueFull)]

/-- `t` is what a MAIL leaves of `s` (R107). -/
def State.MailTaken (t s : State) (o : Origin) (target : AgentId) (payload : BitVec 16) : Prop :=
  match firstApplying (s.mailChecks o.client target) with
  | some r => t.Answered s o r 0 0
  | none =>
    ∃ u : State, u.NuChanged s target
        { s.nu target with queue := (s.nu target).queue ++ [.mail o.client payload] }
      ∧ t.Answered u o .mailed 0 0

/-! ## Expiries and revokes (R84, R87, R89) -/

/-- `t` is `s` with the hold revoked (R89). -/
def State.Revoked (t s : State) (h : Hold) : Prop :=
  ∃ u v w : State, u.HoldRemoved s h .orphaned
    ∧ v.ClientChanged u h.client
      { s.client h.client with revoked := (s.client h.client).revoked.set h.lock true }
    ∧ w.NoticePassed v h true
    ∧ t = w.grantEval h.lock

/-- `t` is `s` with the hold warned (R87): its countdown and phase take the values given. -/
def State.Warned (t s : State) (h : Hold) (countdown : Countdown) (phase : Phase) : Prop :=
  ∃ u : State, u.NoticePassed s h false
    ∧ t = { u with
        pool :=
          changeHold h.client h.lock (fun h => { h with countdown := countdown, phase := phase, warned := true })
            s.pool }

/-! ## Detach requests and jobs (R114, R115, R123) -/

/-- `u` is `s` with the clients of the set, and with an AGENT-scope request the agent, made DETACHING and
nothing else changed (R114). -/
def State.MadeDetaching (u s : State) (a : AgentId) (set : SlotSet) (scope : Scope) : Prop :=
  (∀ sl, u.client (clientOf a sl) =
      if set.get sl = true then { s.client (clientOf a sl) with state := .detaching } else s.client (clientOf a sl))
    ∧ (∀ d, agentOf d ≠ a → u.client d = s.client d)
    ∧ u.line a = (if scope = .agent then { s.line a with attach := .detaching } else s.line a)
    ∧ (∀ b, b ≠ a → u.line b = s.line b)
    ∧ u = { s with clients := u.clients, lines := u.lines }

/-- The lowest slot of a set, at its WAIT phase, or the final step when the set is empty. -/
def AtLowest (set : SlotSet) (p : Position) : Prop :=
  ((∀ sl, set.get sl = false) → p = .final)
    ∧ ∀ sl, set.get sl = true → (∀ sm, sm < sl → set.get sm = false) → p = .step sl .wait

/-- `t` is `s` with a request placed in the job queue and nothing else changed (R115). -/
def State.Placed (t s : State) (a : AgentId) (set : SlotSet) (scope : Scope) : Prop :=
  t = { s with activeJob := t.activeJob, waitingJobs := t.waitingJobs }
    ∧ if (∃ j ∈ s.waitingJobs, j.agent = a) then
        t.activeJob = s.activeJob
          ∧ t.waitingJobs =
            s.waitingJobs.map fun j =>
              if j.agent = a then
                { j with
                  set := slotUnion j.set set
                  named := slotUnion j.named set
                  scope := if scope = .agent ∨ j.scope = .agent then .agent else .client }
              else j
      else if s.activeJob = none ∧ s.waitingJobs = [] then
        t.waitingJobs = []
          ∧ ∃ p, AtLowest set p
            ∧ t.activeJob = some { job := { agent := a, set := set, named := set, scope := scope }, position := p }
      else
        t.activeJob = s.activeJob
          ∧ t.waitingJobs = s.waitingJobs ++ [{ agent := a, set := set, named := set, scope := scope }]

/-- The locks that the waiting clients of a set wait for, in ascending slot order (R67). -/
def State.waitLocks (s : State) (a : AgentId) (set : SlotSet) : List LockId :=
  (allSlots.filter fun sl => set.get sl).filterMap fun sl =>
    (s.client (clientOf a sl)).wait.map WaitRecord.lock

/-- `t` is what a detach request naming the slots leaves of `s` (R114, R115): of the clients named, those
READY or WAITING form its set; they become DETACHING; grant evaluation runs on the lock of each wait;
the request is placed. -/
def State.Requested (t s : State) (a : AgentId) (named : Slot → Bool) (scope : Scope) : Prop :=
  ∃ (set : SlotSet) (u : State),
    (∀ sl, set.get sl = true ↔
        named sl = true
          ∧ ((s.client (clientOf a sl)).state = .ready ∨ (s.client (clientOf a sl)).state = .waiting))
      ∧ u.MadeDetaching s a set scope
      ∧ t.Placed ((s.waitLocks a set).foldl State.grantEval u) a set scope

/-- `t` is `s` with the agent attached and nothing else changed (R113). -/
def State.Attached (t s : State) (a : AgentId) : Prop :=
  t.line a = { s.line a with attach := .attached }
    ∧ (∀ b, b ≠ a → t.line b = s.line b)
    ∧ (∀ c, t.client c = if agentOf c = a then { s.client c with state := .ready } else s.client c)
    ∧ t = { s with lines := t.lines, clients := t.clients }

/-- `t` is `s` with the ACTIVE job ended (R123): JOB_DONE is set, and the WAITING job at the head, if any,
becomes ACTIVE; nothing else changes. -/
def State.JobEnded (t s : State) : Prop :=
  t = { s with activeJob := t.activeJob, waitingJobs := t.waitingJobs, su := t.su }
    ∧ t.su = { s.su with flags := { s.su.flags with jobDone := true } }
    ∧ match s.waitingJobs with
      | [] => t.activeJob = none ∧ t.waitingJobs = []
      | j :: js => t.waitingJobs = js ∧ ∃ p, AtLowest j.set p ∧ t.activeJob = some { job := j, position := p }

end Sys2Proof.Machine
end

