-- ==== Sys2Proof/Certificates/Slice0/Obligations.lean ====
section
/-! DEFINITION. The statements for the provers: what each command does and leaves alone, what the window
decodes, and the laws that every step keeps. A command's arrival in the queue is the model's own
(log 1), and statements about a part's happening are about `exec`. -/

open Sys2Proof Sys2Proof.Machine

/-! ## The step -/

/-- A step takes the command at the front of the queue and runs it with the queue's rest. The queue is the
model's own (log 1). -/
def Obligations.StepTakesTheFrontCommand : Prop :=
  ∀ (c : Instr) (rest : List Instr) (s : State),
    step { s with pending := c :: rest } = exec c { s with pending := rest }

/-- R80: on an empty queue a step is one device clock period (the model's choice, log 5). While halted
nothing changes; while running the prescaler count advances, and when it would reach the tick period
a tick is taken. -/
def Obligations.IdleStepIsOneClockPeriod : Prop :=
  ∀ s : State, s.pending = [] →
    (s.tb.run = false → step s = .next s)
      ∧ (s.tb.run = true → s.tb.prescalerCount + 1 < (s.tb.prescale.toNat + 1) * 64 →
        step s = .next { s with tb := { s.tb with prescalerCount := s.tb.prescalerCount + 1 } })
      ∧ (s.tb.run = true → (s.tb.prescale.toNat + 1) * 64 ≤ s.tb.prescalerCount + 1 → step s = exec .tick s)

/-- No command stops the part, and none touches the queue of commands still waiting (R127: the bus never
sees an error response; the queue is the model's own, log 1). -/
def Obligations.EveryCommandCompletesAndLeavesTheQueue : Prop :=
  ∀ (i : Instr) (s : State), ∃ t, exec i s = .next t ∧ t.pending = s.pending

/-! ## Commands of clients -/

/-- R38 to R43: an ACQUIRE is decided by the first check that applies, in the order of R38 with those of
R39 to R41 and R61 after it; else it is granted at once as R42 says, or queued as R43 says. -/
def Obligations.AcquireIsDecidedByItsFirstApplyingCheck : Prop :=
  ∀ (a : AgentId) (sl : Slot) (n : LockId) (m : Mode) (k : Kind) (p : Priority) (unused : BitVec 15) (s : State),
    ∃ t, exec (.acquire a sl n m k p unused) s = .next t
      ∧ t.AcquireTaken s (Origin.acmd a sl (acquireWord sl n m k p unused)) n m k p

/-- R135, R164: a read of CLAIMn is an ACQUIRE TRY EXCLUSIVE of lock n by the window client at the window
priority, and the result word it writes is the read data. The result word carries the result code, the
slot, the lock and the generation, with the codes of the table of R164. -/
def Obligations.ClaimReadIsATryByTheWindowClient : Prop :=
  (∀ (a : AgentId) (n : LockId) (s : State),
    ∃ t u : State, exec (.claimRead a n) s = .next t
      ∧ u.AcquireTaken s (Origin.claimRead a (s.window a) n) n .exclusive .tryOnce (s.window a).priority
      ∧ t = { u with busData := (u.client (clientOf a (s.window a).slot)).result.encode })
    ∧ (∀ r : ResultWord,
      r.encode.toNat = r.result.code.toNat * 2 ^ 24 + r.slot * 2 ^ 22 + r.lock * 2 ^ 16 + r.generation.toNat)
    ∧ (([.none, .ok, .okSuspect, .waiting, .busy, .gated, .noSpace, .queueFull, .dead, .detaching, .released,
        .releasedDead, .revokedEarlier, .cancelled, .tooLate, .renewed, .cleaned, .mailed, .targetOff] :
        List Result).map fun r => r.code.toNat) = List.range 0x13
    ∧ (([.badOpcode, .clientOff, .clientWaiting, .lockOffline, .denied, .selfHeld, .noShared, .holdLimit, .order,
        .notHolder, .notWaiting, .notRenewable, .notSuspect] : List Result).map fun r => r.code.toNat)
      = (List.range 13).map (0x81 + ·)

/-- R49 to R51, R7, R8: a RELEASE. -/
def Obligations.ReleaseFollowsItsChecks : Prop :=
  ∀ (a : AgentId) (sl : Slot) (n : LockId) (unused : BitVec 21) (s : State),
    ∃ t, exec (.release a sl n unused) s = .next t
      ∧ t.ReleaseTaken s (Origin.acmd a sl (lockWord opRelease sl n unused)) n

/-- R136: a write of CLAIMn is a RELEASE of lock n by the window client, whatever the data. -/
def Obligations.ClaimWriteIsAReleaseByTheWindowClient : Prop :=
  ∀ (a : AgentId) (n : LockId) (data : Word) (s : State),
    ∃ t, exec (.claimWrite a n data) s = .next t
      ∧ t.ReleaseTaken s (Origin.claimWrite a (s.window a) n) n

/-- R53, R9: a MARK_CLEAN. -/
def Obligations.MarkCleanFollowsItsChecks : Prop :=
  ∀ (a : AgentId) (sl : Slot) (n : LockId) (unused : BitVec 21) (s : State),
    ∃ t, exec (.markClean a sl n unused) s = .next t
      ∧ t.MarkCleanTaken s (Origin.acmd a sl (lockWord opMarkClean sl n unused)) n

/-- R54, R55: a CANCEL, by the client's state and its last-wait-end. -/
def Obligations.CancelFollowsTheClientState : Prop :=
  ∀ (a : AgentId) (sl : Slot) (unused : BitVec 27) (s : State),
    ∃ t, exec (.cancel a sl unused) s = .next t
      ∧ t.CancelTaken s (Origin.acmd a sl (bareWord opCancel sl unused))

/-- R91: a RENEW. -/
def Obligations.RenewFollowsItsChecks : Prop :=
  ∀ (a : AgentId) (sl : Slot) (n : LockId) (unused : BitVec 21) (s : State),
    ∃ t, exec (.renew a sl n unused) s = .next t
      ∧ t.RenewTaken s (Origin.acmd a sl (lockWord opRenew sl n unused)) n

/-- R107: a MAIL. -/
def Obligations.MailFollowsItsChecks : Prop :=
  ∀ (a : AgentId) (sl : Slot) (target : AgentId) (payload : BitVec 16) (unused : BitVec 8) (s : State),
    ∃ t, exec (.mail a sl target payload unused) s = .next t
      ∧ t.MailTaken s (Origin.acmd a sl (mailWord sl target payload unused)) target payload

/-- R36: a command answered with a fault changes nothing but the result register, the fault record and its
flags, for DENIED the denial record, and for a claim-window read (R135) the read data, which is the
result word. -/
def Obligations.FaultsChangeNothingElse : Prop :=
  ∀ (i : Instr) (o : Origin) (s t : State),
    s.originOf i = some o → exec i s = .next t → (t.client o.client).result.result.isFault = true →
      ∃ (u : State) (n : LockId), u.Answered s o (t.client o.client).result.result n 0
        ∧ t = { u with
            busData :=
              match i with
              | .claimRead _ _ => (t.client o.client).result.encode
              | _ => s.busData }

/-- R27: the result register of a client is written only by the client's own commands, by SOFT_RESET and at
power-on. -/
def Obligations.ResultRegistersAreWrittenByOwnCommandsOnly : Prop :=
  ∀ (i : Instr) (s t : State) (c : ClientId),
    exec i s = .next t → (t.client c).result ≠ (s.client c).result →
      (∃ o, s.originOf i = some o ∧ o.client = c) ∨ (∃ number, i = .softReset number)
        ∨ ∃ levels, i = .powerOnReset levels

/-! ## Grant evaluation and the flush -/

/-- R45, R65: which waiters grant evaluation chooses. With `q` the eligible waiters in queue order: on a FREE
lock the first if it is EXCLUSIVE; on a FREE or SHARED lock the SHARED waiters ahead of the first
EXCLUSIVE one; on an ORPHANED lock the first, which is EXCLUSIVE; in every other state none. -/
def Obligations.GrantEvaluationChoosesAheadOfTheFirstWriter : Prop :=
  ∀ (s : State) (n : LockId),
    let q := s.eligibleWaiters n
    let st := (s.lock n).state
    (∀ c, c ∈ q ↔ c ∈ (s.lock n).queue ∧ ∃ w, (s.client c).wait = some w ∧ w.priority.val < s.su.gate.val
        ∧ (s.client c).state ≠ .detaching ∧ ¬ (st = .orphaned ∧ w.mode = .shared))
      ∧ q.Sublist (s.lock n).queue
      ∧ (st = .held ∨ st = .suspect ∨ st = .offline ∨ st = .dead → s.waitersToGrant n = [])
      ∧ (st = .orphaned → s.waitersToGrant n = q.take 1)
      ∧ (st = .free → ∀ c r, q = c :: r → s.waitMode c = .exclusive → s.waitersToGrant n = [c])
      ∧ (st = .free ∨ st = .shared → ∀ l r, q = l ++ r → (∀ c ∈ l, s.waitMode c = .shared) →
          (∀ c, r.head? = some c → s.waitMode c = .exclusive) → (l = [] → r = [] ∨ st = .shared) →
          s.waitersToGrant n = l)

/-- R46, R47: grant evaluation grants the waiters it chose, one after another in queue order, with
consecutive generations and with GRANTED notices through their reserved slots; nothing else changes.
The premise is R60's: a queue holds no client twice. -/
def Obligations.GrantEvaluationGrantsInQueueOrder : Prop :=
  ∀ (s : State) (n : LockId),
    (s.lock n).queue.Nodup → s.grantEval n = s.afterGrants n (s.waitersToGrant n)

/-- R13: the DEAD flush removes every entry in queue order: a WAITING client becomes READY with a
WAIT_ENDED notice through its reserved slot, a DETACHING one gives its slot up silently. The premise is
R60's: a queue holds no client twice. -/
def Obligations.DeadFlushEndsEveryWait : Prop :=
  ∀ (s : State) (n : LockId), (s.lock n).queue.Nodup → s.deadFlush n = s.afterFlush n

/-! ## The notice queues, the agent flags, misuse -/

/-- R104, R165: a word read of NOTICE returns the head and removes it, or returns EMPTY, which is 0; a read of
NPEEK only returns the head; a write of either is ignored; a sub-word read of either returns 0, sets
ACCESS_ERR and has no other effect. The notice word carries the kind and the fields of its kind. -/
def Obligations.NoticeReadsPopTheHead : Prop :=
  (∀ (a : AgentId) (s : State),
    (∀ n rest, (s.nu a).queue = n :: rest →
      s.readReg (.agent a .npeek) = some n.encode
        ∧ ∃ t u : State, exec (.noticePop a) s = .next t ∧ u.NuChanged s a { s.nu a with queue := rest }
          ∧ t = { u with busData := n.encode })
      ∧ ((s.nu a).queue = [] →
        s.readReg (.agent a .npeek) = some 0 ∧ exec (.noticePop a) s = .next { s with busData := 0 })
      ∧ (∀ w, exec (.registerWrite (.readOnly (.notice a)) w) s = .next s
        ∧ exec (.registerWrite (.readOnly (.npeek a)) w) s = .next s)
      ∧ ∀ acc : BusAccess, acc.size ≠ .word → acc.write = none →
        ∃ t, exec (.accessMisuse acc) s = .next t
          ∧ t = { s with busData := 0, su := { s.su with flags := { s.su.flags with accessErr := true } } })
    ∧ (∀ n : Notice,
      n.encode.toNat =
        match n with
        | .granted slot lock mode suspect generation =>
          1 * 2 ^ 29 + suspect.toNat * 2 ^ 25 + (if mode = .shared then 1 else 0) * 2 ^ 24 + slot * 2 ^ 22
            + lock * 2 ^ 16 + generation.toNat
        | .waitEnded slot lock reason =>
          2 * 2 ^ 29 + (if reason = .dead then 1 else 0) * 2 ^ 26 + slot * 2 ^ 22 + lock * 2 ^ 16
        | .warned slot lock generation => 3 * 2 ^ 29 + slot * 2 ^ 22 + lock * 2 ^ 16 + generation.toNat
        | .revoked slot lock generation => 4 * 2 ^ 29 + slot * 2 ^ 22 + lock * 2 ^ 16 + generation.toNat
        | .mail sender payload => 5 * 2 ^ 29 + sender * 2 ^ 16 + payload.toNat)

/-- R139, R102: a write of AFLAGS clears each flag written as 1: FAULT takes MULTI and the fault record with
it, LOST takes LOST_KINDS with it, and a flag written as 0 is left; nothing else changes. The row of
the command names the lowest flag (log 9). -/
def Obligations.AflagsWriteClearsTheFlagsWrittenAsOne : Prop :=
  ∀ (a : AgentId) (w : Word) (i : Instr) (s : State),
    i = .clearLost a w ∨ i = .clearFault a w ∨ i = .clearMulti a w →
      ∃ t, exec i s = .next t
        ∧ t.NuChanged s a
          { s.nu a with
            lost := (s.nu a).lost && !w.getLsbD 0
            lostWarned := (s.nu a).lostWarned && !w.getLsbD 0
            lostRevoked := (s.nu a).lostRevoked && !w.getLsbD 0
            fault := (s.nu a).fault && !w.getLsbD 1
            multi := (s.nu a).multi && !w.getLsbD 1 && !w.getLsbD 2
            faultRecord := if w.getLsbD 1 = true then none else (s.nu a).faultRecord }

/-- R128: an access is misuse exactly if it is a byte or halfword access, or a word access to an undecoded
offset (a word offset no register stands at); misuse sets ACCESS_ERR and does nothing else, a misused
read returns 0. A word write to a read-only register is ignored with no flag, and ACMD reads 0 with no
side effect. -/
def Obligations.MisusedAccessesOnlySetAccessErr : Prop :=
  (∀ acc : BusAccess, acc.size ≠ .word ∨ acc.address.toNat % 4 = 0 →
    (decodeAccess acc = some (.accessMisuse acc) ↔ acc.size ≠ .word ∨ regAt acc.address = none))
    ∧ (∀ (acc : BusAccess) (s : State),
      ∃ t, exec (.accessMisuse acc) s = .next t
        ∧ t = { s with
            busData := if acc.write = none then 0 else s.busData
            su := { s.su with flags := { s.su.flags with accessErr := true } } })
    ∧ (let ignored (r : RegName) : Prop := ∀ w, ∃ o,
        decodeAccess ⟨r.address, .word, some w⟩ = some (.registerWrite (.readOnly o) w)
      (∀ (a : AgentId) (r : AgentReg),
        r ∈ ([.notice, .npeek, .nqstat, .faultrec, .ainfo] : List AgentReg)
            ∨ (∃ sl, r = .result sl ∨ r = .cstat sl) → ignored (.agent a r))
        ∧ ∀ r : ControlReg,
          r ∈ ([.sresult, .sweepstat, .jobstat, .agstate, .linestat, .denialrec] : List ControlReg)
              ∨ (∃ i, r = .inspect i) → ignored (.control r))
    ∧ (∀ o w s, exec (.registerWrite (.readOnly o) w) s = .next s)
    ∧ ∀ (a : AgentId) (s : State), s.readReg (.agent a .acmd) = some 0
      ∧ decodeAccess ⟨(RegName.agent a .acmd).address, .word, none⟩ = none

/-! ## Register writes -/

/-- R160, R133, R134, R141, R145, R151, R156: a word write to WAITLIM, WINCFG, AEN, CFG_A, CFG_B, AGCFG or SEN
stores the bits of the register's fields, which a read gives back with every other bit 0, and changes
only the state behind that register. -/
def Obligations.PlainRegistersStoreTheirFields : Prop :=
  ∀ (w : Word) (s : State),
    (∀ a sl, ∃ t, exec (.registerWrite (.waitlim a sl) w) s = .next t
        ∧ t.readReg (.agent a (.waitlim sl)) = some (w &&& 0x0000FFFF)
        ∧ t.ClientChanged s (clientOf a sl)
          { s.client (clientOf a sl) with waitLimit := (t.client (clientOf a sl)).waitLimit })
      ∧ (∀ a, ∃ t, exec (.registerWrite (.wincfg a) w) s = .next t
        ∧ t.readReg (.agent a .wincfg) = some (w &&& 0x00000F03)
        ∧ (∀ b, b ≠ a → t.window b = s.window b) ∧ t = { s with windows := t.windows })
      ∧ (∀ a, ∃ t, exec (.registerWrite (.aen a) w) s = .next t
        ∧ t.readReg (.agent a .aen) = some (w &&& 0x00000007)
        ∧ t.NuChanged s a
          { s.nu a with noticeEn := w.getLsbD 0, lostEn := w.getLsbD 1, faultEn := w.getLsbD 2 })
      ∧ (∃ t, exec (.registerWrite .cfgA w) s = .next t
        ∧ t.readReg (.control .cfgA) = some (w &&& 0x0000333F)
        ∧ t = { s with su := { s.su with cfgA := t.su.cfgA } })
      ∧ (∃ t, exec (.registerWrite .cfgB w) s = .next t
        ∧ t.readReg (.control .cfgB) = some w
        ∧ t = { s with su := { s.su with cfgB := t.su.cfgB } })
      ∧ (∀ a, ∃ t, exec (.registerWrite (.agcfg a) w) s = .next t
        ∧ t.readReg (.control (.agcfg a)) = some (w &&& 0x0000010F)
        ∧ (∀ b, b ≠ a → t.agentConfig b = s.agentConfig b)
        ∧ t = { s with su := { s.su with agents := t.su.agents } })
      ∧ ∃ t, exec (.registerWrite .sen w) s = .next t
        ∧ t.readReg (.control .sen) = some (w &&& 0x0000011F)
        ∧ t = { s with su := { s.su with enables := t.su.enables, poolLowEn := t.su.poolLowEn } }

/-- R105, R33: the registers that limit what they store. NQCFG takes bits 7:0, storing 1 for 0 and 16 for
more than 16; POOLSTAT takes bits 23:16, storing 96 for more than 96, and keeps the free count. -/
def Obligations.ThresholdsAreLimited : Prop :=
  ∀ (w : Word) (s : State),
    let v := (w.extractLsb' 0 8).toNat
    let p := (w.extractLsb' 16 8).toNat
    (∀ a, ∃ t, exec (.registerWrite (.nqcfg a) w) s = .next t
        ∧ ((t.nu a).threshold.val = if v = 0 then 1 else if 16 < v then 16 else v)
        ∧ t.NuChanged s a { s.nu a with threshold := (t.nu a).threshold }
        ∧ t.readReg (.agent a .nqcfg) = some (BitVec.ofNat 32 (if v = 0 then 1 else if 16 < v then 16 else v)))
      ∧ ∃ t, exec (.poolstatWrite w) s = .next t
        ∧ (t.su.poolLowThreshold.val = if 96 < p then 96 else p)
        ∧ t.freeCount = s.freeCount
        ∧ t = { s with su := { s.su with poolLowThreshold := t.su.poolLowThreshold } }

/-- R70, R72: a write of GATE sets G, 16 for more than 16; a raise starts the sweep at lock 0 when idle and
sets AGAIN when running, any other write leaves the sweep; no lock is evaluated. -/
def Obligations.GateWritesStartOrRearmTheSweep : Prop :=
  ∀ (w : Word) (s : State),
    let v := (w.extractLsb' 0 8).toNat
    let g := if 16 < v then 16 else v
    ∃ t, exec (.gateWrite w) s = .next t
      ∧ t = { s with su := { s.su with gate := t.su.gate, sweep := t.su.sweep } }
      ∧ t.su.gate.val = g
      ∧ t.su.sweep =
        if g ≤ s.su.gate.val then s.su.sweep
        else if s.su.sweep.running = true then { s.su.sweep with again := true }
        else { running := true, position := 0, again := false }

/-- R80, R81: a write of TBCTRL stores RUN and PRESCALE, and leaves the current period alone only when it
repeats the values in force while running; a write of TBNOW is taken while halted and ignored while
running. -/
def Obligations.TimeBaseRegisterWrites : Prop :=
  ∀ (w : Word) (s : State),
    exec (.tbctrlWrite w) s = .next { s with
        tb := { s.tb with
          run := w.getLsbD 0
          prescale := w.extractLsb' 16 16
          prescalerCount :=
            if s.tb.run = true ∧ w.getLsbD 0 = true ∧ w.extractLsb' 16 16 = s.tb.prescale then s.tb.prescalerCount
            else 0 } }
      ∧ exec (.tbnowWrite w) s = .next { s with tb := { s.tb with now := if s.tb.run = true then s.tb.now else w } }

/-- R144, R147: a write of SFLAGS clears each of the five flags written as 1, and clearing DENIAL empties the
denial record; a 1 at the POOL_LOW position is ignored; nothing else changes. The row of the command
names the lowest flag (log 9). -/
def Obligations.SflagsWriteClearsTheFlagsWrittenAsOne : Prop :=
  ∀ (w : Word) (i : Instr) (s : State),
    i = .clearAccessErr w ∨ i = .clearDenial w ∨ i = .clearLockDead w ∨ i = .clearJobDone w
        ∨ i = .clearSweepDone w →
      exec i s = .next { s with
        su := { s.su with
          flags :=
            { accessErr := s.su.flags.accessErr && !w.getLsbD 0
              denial := s.su.flags.denial && !w.getLsbD 1
              lockDead := s.su.flags.lockDead && !w.getLsbD 2
              jobDone := s.su.flags.jobDone && !w.getLsbD 3
              sweepDone := s.su.flags.sweepDone && !w.getLsbD 4 }
          denialRecord := if w.getLsbD 1 = true then none else s.su.denialRecord } }

/-! ## Supervisor commands -/

/-- R2, R11, R12: SETCFG, ONLINE, OFFLINE and RESTORE, each with its result; a refused claim leaves the lock
as it was. SETCFG copies the seven fields of CFG_A and CFG_B, the fourth encoding of the action as WARN. -/
def Obligations.LockCommandsOfTheSupervisor : Prop :=
  ∀ (n : LockId) (s : State),
    let l := s.lock n
    let staged : LockConfig :=
      { ceiling := s.su.cfgA.ceiling
        domain := s.su.cfgA.domain
        sharedOk := s.su.cfgA.sharedOk
        renewable := s.su.cfgA.renewable
        budget := s.su.cfgB.budget
        action :=
          if s.su.cfgA.action = 1 then .revoke
          else if s.su.cfgA.action = 2 then .warnRevoke
          else .warn
        grace := s.su.cfgB.grace }
    (∃ t u : State, exec (.setcfg n) s = .next t
        ∧ u.LockChanged s n
          (if l.state = .offline then { l with config := staged } else l)
        ∧ t.Reported u (if l.state = .offline then .done else .notOffline) 1 n)
      ∧ (∃ t u : State, exec (.online n) s = .next t
        ∧ u.LockChanged s n (if l.state = .offline then { l with state := .free } else l)
        ∧ t.Reported u (if l.state = .offline then .done else .notOffline) 2 n)
      ∧ (∃ t u : State, exec (.offline n) s = .next t
        ∧ (let drained := (l.state = .free ∨ l.state = .orphaned ∨ l.state = .dead) ∧ l.queue = []
          u.LockChanged s n (if drained then { l with state := .offline } else l)
            ∧ t.Reported u (if drained ∨ l.state = .offline then .done else .busy) 3 n))
      ∧ ∃ t u : State, exec (.restore n) s = .next t
        ∧ u.LockChanged s n (if l.state = .dead then { l with state := .free } else l)
        ∧ t.Reported u (if l.state = .dead then .done else .notDead) 4 n

/-- R153, R170: INSPECT_LOCK fills the four INSPECT words with the fields of the lock record and changes
nothing else but SRESULT. -/
def Obligations.InspectLockShowsTheRecord : Prop :=
  ∀ (n : LockId) (s : State),
    ∃ t u : State, exec (.inspectLock n) s = .next t ∧ t.Reported u .done 5 n
      ∧ u = { s with su := { s.su with inspect := u.su.inspect } }
      ∧ (let l := s.lock n
        let word (i : Fin 4) (lo len : Nat) := ((u.su.inspect.get i).extractLsb' lo len).toNat
        word 0 0 2 = 1 ∧ word 0 8 6 = n ∧ word 0 16 3 = l.state.code.toNat
          ∧ word 0 20 1 = l.cleanPending.toNat ∧ word 0 24 8 = l.generation.toNat % 256
          ∧ word 1 24 8 = l.generation.toNat / 256
          ∧ word 1 0 4 = l.config.ceiling ∧ word 1 4 2 = l.config.domain ∧ word 1 8 1 = l.config.sharedOk.toNat
          ∧ word 1 9 1 = l.config.renewable.toNat ∧ word 1 12 2 = l.config.action.code.toNat
          ∧ word 2 0 16 = l.config.budget.toNat ∧ word 2 16 16 = l.config.grace.toNat
          ∧ word 3 0 6 = (s.holders n).length % 64 ∧ word 3 8 5 = l.queue.length % 32
          ∧ (l.queue = [] → word 3 24 6 = 0)
          ∧ (∀ c rest, l.queue = c :: rest → word 3 24 5 = c ∧ word 3 29 1 = 1)
          ∧ (¬ (l.state = .held ∨ l.state = .suspect) → word 3 16 8 = 0)
          ∧ (∀ h rest, l.state = .held ∨ l.state = .suspect → s.holders n = h :: rest →
            word 3 16 5 = h.client ∧ word 3 21 1 = 1 ∧ word 3 22 1 = h.phase.bit.toNat
              ∧ word 3 23 1 = h.warned.toNat))

/-- R154, R166, R170: INSPECT_CLIENT, its number modulo 32, fills the four INSPECT words with the fields of
the client context, the second being what CSTAT of the client reads, the third the number of members of
the revoked set, and changes nothing else but SRESULT. The held list is the client's holds in the order of
their records (R22). -/
def Obligations.InspectClientShowsTheContext : Prop :=
  ∀ (number : Fin 64) (s : State) (c : ClientId), c.val = number.val % 32 →
    ∃ t u : State, exec (.inspectClient number) s = .next t ∧ t.Reported u .done 6 c
      ∧ u = { s with su := { s.su with inspect := u.su.inspect } }
      ∧ (let word (i : Fin 4) (lo len : Nat) := ((u.su.inspect.get i).extractLsb' lo len).toNat
        word 0 0 2 = 2 ∧ word 0 8 6 = c ∧ u.su.inspect.get 3 = 0
          ∧ some (u.su.inspect.get 1) = s.readReg (.agent (agentOf c) (.cstat (slotOf c)))
          ∧ u.su.inspect.get 2
            = BitVec.ofNat 32 ((List.finRange 64).filter fun n => (s.client c).revoked.get n).length
          ∧ word 1 0 2 = (s.client c).state.code.toNat
          ∧ s.heldList c =
            (s.pool.filterMap fun r =>
              match r with
              | .reservation _ _ => none
              | .hold h => if h.client = c then some h else none)
          ∧ word 1 4 4 = (s.heldList c).length % 16
          ∧ word 1 24 5 = s.clientCeiling c % 32
          ∧ (s.mark c = none → word 1 8 7 = 0)
          ∧ (∀ n, s.mark c = some n → word 1 8 6 = n ∧ word 1 14 1 = 1)
          ∧ ((s.client c).wait = none → word 1 16 7 = 0)
          ∧ ∀ w, (s.client c).wait = some w → word 1 16 6 = w.lock ∧ word 1 22 1 = 1)

/-- R15, R23, R24: the mark of a client ranks above every other lock it holds, by ceiling and then by number;
the client ceiling is the least of the ceilings of the locks it holds and of the priorities queued on
them, and 16 when it holds none. -/
def Obligations.MarkAndClientCeiling : Prop :=
  ∀ (s : State) (c : ClientId),
    let key (n : LockId) := (s.lock n).config.ceiling.val * 64 + 63 - n.val
    (s.mark c = none ↔ s.heldList c = [])
      ∧ (∀ n, s.mark c = some n →
        (∃ h ∈ s.heldList c, h.lock = n) ∧ ∀ h ∈ s.heldList c, key n ≤ key h.lock)
      ∧ (s.heldList c = [] → s.clientCeiling c = 16)
      ∧ (∀ h ∈ s.heldList c, s.clientCeiling c ≤ (s.lock h.lock).config.ceiling.val
        ∧ ∀ d ∈ (s.lock h.lock).queue, ∀ w, (s.client d).wait = some w → s.clientCeiling c ≤ w.priority.val)
      ∧ (s.heldList c ≠ [] →
        ∃ h ∈ s.heldList c, s.clientCeiling c = (s.lock h.lock).config.ceiling.val
          ∨ ∃ d ∈ (s.lock h.lock).queue, ∃ w, (s.client d).wait = some w ∧ s.clientCeiling c = w.priority.val)

/-- R116, R117 with R114, R115: DETACH_CLIENT, its number modulo 32, and DETACH_AGENT, its number modulo 8. -/
def Obligations.DetachCommandsPlaceARequest : Prop :=
  ∀ (number : Fin 64) (s : State),
    (∀ c : ClientId, c.val = number.val % 32 →
      ∃ t u : State, exec (.detachClient number) s = .next t
        ∧ if (s.client c).state = .ready ∨ (s.client c).state = .waiting then
            u.Requested s (agentOf c) (fun sl => sl == slotOf c) .client ∧ t.Reported u .done 7 c
          else u = s ∧ t.Reported u .already 7 c)
      ∧ ∀ a : AgentId, a.val = number.val % 8 →
        ∃ t u : State, exec (.detachAgent number) s = .next t
          ∧ match (s.line a).attach with
            | .attached => u.Requested s a (fun _ => true) .agent ∧ t.Reported u .done 8 a
            | .detaching => u = s ∧ t.Reported u .already 8 a
            | .detached => u = s ∧ t.Reported u .doneEmpty 8 a

/-- R117: ATTACH, its number modulo 8. -/
def Obligations.AttachNeedsADetachedAgentAndAReleasedLine : Prop :=
  ∀ (number : Fin 64) (s : State) (a : AgentId), a.val = number.val % 8 →
    ∃ t u : State, exec (.attach number) s = .next t
      ∧ match (s.line a).attach, (s.line a).asserted with
        | .attached, _ => u = s ∧ t.Reported u .already 9 a
        | .detaching, _ => u = s ∧ t.Reported u .busy 9 a
        | .detached, true => u = s ∧ t.Reported u .lineHeld 9 a
        | .detached, false => u.Attached s a ∧ t.Reported u .done 9 a

/-- R158 with R14, R28, R95, R111, R126, R148: every block's share of SOFT_RESET. -/
def Obligations.SoftResetTakesEveryShare : Prop :=
  ∀ (number : Fin 64) (s : State),
    ∃ t, exec (.softReset number) s = .next t
      ∧ (∀ n, t.lock n =
        { s.lock n with
          state :=
            if (s.lock n).state = .held ∨ (s.lock n).state = .suspect then .orphaned
            else if (s.lock n).state = .shared then .free
            else (s.lock n).state
          queue := []
          cleanPending := false })
      ∧ t.pool = []
      ∧ (∀ a, t.line a =
        { s.line a with
          attach :=
            if (s.line a).attach = .detaching then
              (if (s.agentConfig a).autoAttach = true ∧ (s.line a).asserted = false then .attached else .detached)
            else (s.line a).attach })
      ∧ (∀ c, t.client c =
        { s.client c with
          state := if (t.line (agentOf c)).attach = .attached then .ready else .off
          wait := none
          lastWaitEnd := .none
          revoked := Vector.replicate 64 false
          result := { result := .none, slot := 0, lock := 0, generation := 0 } })
      ∧ (∀ a, t.nu a =
        { s.nu a with
          queue := []
          reserved := 0
          lost := false
          lostWarned := false
          lostRevoked := false
          fault := false
          multi := false
          faultRecord := none })
      ∧ t.activeJob = none
      ∧ t.waitingJobs = []
      ∧ t.su =
        { s.su with
          sweep := { running := false, position := 0, again := false }
          flags := { s.su.flags with denial := false, lockDead := false, jobDone := false, sweepDone := false }
          denialRecord := none
          sresult := { result := .done, command := 10, number := 0 } }
      ∧ t.windows = s.windows
      ∧ t.tb = s.tb
      ∧ t.busData = s.busData

/-- R129, R149, R150: an undefined ACMD opcode is faulted BAD_OPCODE before the client's state is looked at; an
undefined SCMD code is answered BAD_COMMAND and changes nothing but SRESULT. -/
def Obligations.UndefinedCodesAreAnsweredAndDoNothingElse : Prop :=
  ∀ s : State,
    (∀ (a : AgentId) (sl : Slot) (opcode : BitVec 3) (unused : BitVec 27),
      ∃ t, exec (.badOpcode a sl opcode unused) s = .next t
        ∧ t.Answered s (Origin.acmd a sl (bareWord opcode sl unused)) .badOpcode 0 0)
      ∧ ∀ (code : BitVec 4) (number : Fin 64),
        ∃ t, exec (.badCommand code number) s = .next t ∧ t.Reported s .badCommand code 0

/-! ## Resets -/

/-- R1, R19, R29, R96, R112, R159, R161, R162: what every register reads after power-on reset, and that every
lock is OFFLINE with its power-on record. Bit n of the levels is 1 when agent n's reset input is
asserted. -/
def Obligations.PowerOnValues : Prop :=
  ∀ (levels : BitVec 8) (s : State),
    ∃ t, exec (.powerOnReset levels) s = .next t
      ∧ (∀ n, t.lock n =
        { state := .offline
          config :=
            { ceiling := 15, domain := 0, sharedOk := false, renewable := true, budget := 0, action := .warn, grace := 0 }
          queue := []
          generation := 0
          cleanPending := false })
      ∧ t.pool = []
      ∧ (∀ c, (t.client c).wait = none ∧ (t.client c).lastWaitEnd = .none ∧ (t.client c).revokedCount = 0)
      ∧ t.tb.prescalerCount = 0
      ∧ (∀ a : AgentId,
        let held := levels.getLsbD a
        (t.line a).asserted = held
          ∧ (t.line a).attach = (if held = true then .detached else .attached)
          ∧ (∀ sl,
            t.readReg (.agent a (.result sl)) = some 0
              ∧ t.readReg (.agent a (.waitlim sl)) = some 0
              ∧ t.readReg (.agent a (.cstat sl)) = some (if held = true then 0x10000000 else 0x10000001))
          ∧ t.readReg (.agent a .npeek) = some 0
          ∧ t.readReg (.agent a .nqstat) = some 0
          ∧ t.readReg (.agent a .nqcfg) = some 1
          ∧ t.readReg (.agent a .aflags) = some 0
          ∧ t.readReg (.agent a .aen) = some 0
          ∧ t.readReg (.agent a .faultrec) = some 0
          ∧ t.readReg (.agent a .wincfg) = some 0
          ∧ t.readReg (.agent a .ainfo) = some ((if held = true then 0x00000120 else 0x00000100) + BitVec.ofNat 32 a)
          ∧ t.readReg (.control (.agcfg a)) = some 0x00000101
          ∧ (t.readControlReg .agstate).extractLsb' (2 * a.val) 2 = (if held = true then 2 else 0))
      ∧ t.readReg (.control .scmd) = some 0
      ∧ t.readReg (.control .sresult) = some 0
      ∧ t.readReg (.control .cfgA) = some 0x0000020F
      ∧ t.readReg (.control .cfgB) = some 0
      ∧ (∀ i, t.readReg (.control (.inspect i)) = some 0)
      ∧ t.readReg (.control .gate) = some 0x00000010
      ∧ t.readReg (.control .sweepstat) = some 0
      ∧ t.readReg (.control .tbctrl) = some 0
      ∧ t.readReg (.control .tbnow) = some 0
      ∧ t.readReg (.control .poolstat) = some 0x00000060
      ∧ t.readReg (.control .jobstat) = some 0
      ∧ t.readReg (.control .linestat) = some (levels.setWidth 32)
      ∧ t.readReg (.control .sflags) = some 0
      ∧ t.readReg (.control .sen) = some 0
      ∧ t.readReg (.control .denialrec) = some 0

/-- R113: the edges of an agent reset input. A level already recorded is no edge and changes nothing (the
model's choice, log 7). -/
def Obligations.LineEdgesDetachAndAttach : Prop :=
  ∀ (a : AgentId) (s : State),
    let recorded (b : Bool) : State := { s with lines := s.lines.set a { s.line a with asserted := b } }
    (∃ t, exec (.resetAssertion a) s = .next t
        ∧ if (s.line a).asserted = true then t = s
          else if (s.line a).attach = .attached then t.Requested (recorded true) a (fun _ => true) .agent
          else t = recorded true)
      ∧ ∃ t, exec (.resetDeassertion a) s = .next t
        ∧ if (s.line a).asserted = false then t = s
          else if (s.line a).attach = .detached ∧ (s.agentConfig a).autoAttach = true then
            t.Attached (recorded false) a
          else t = recorded false

/-! ## Time -/

/-- R81, R82: while the time base runs a tick adds one to NOW modulo 2^32 and takes one off every armed
countdown that is not due. That a TICK command changes nothing while the time base is halted, when no
tick occurs (R80), is the model's choice (log 4), and so is that a TICK command ends the period at any
prescaler count (log 5). -/
def Obligations.TickDecrementsEveryArmedCountdown : Prop :=
  ∀ s : State,
    let down (c : Countdown) : Countdown :=
      match c with
      | none => none
      | some v => if v = 0 then some 0 else some (v - 1)
    (s.tb.run = false → exec .tick s = .next s)
      ∧ (s.tb.run = true →
        ∃ t, exec .tick s = .next t
          ∧ t.tb = { s.tb with now := s.tb.now + 1, prescalerCount := 0 }
          ∧ (∀ c, t.client c =
            { s.client c with
              wait := (s.client c).wait.map fun w => { w with countdown := down w.countdown } })
          ∧ t.pool =
            (s.pool.map fun r =>
              match r with
              | .reservation c n => .reservation c n
              | .hold h => .hold { h with countdown := down h.countdown })
          ∧ t = { s with tb := t.tb, clients := t.clients, pool := t.pool })

/-- R87 to R89: the expiry of a due hold countdown warns the hold or revokes it, by its phase and by the
action and grace of its lock. -/
def Obligations.HoldExpiryWarnsOrRevokes : Prop :=
  ∀ (c : ClientId) (n : LockId) (h : Hold) (s : State),
    s.findHold c n = some h → h.countdown = some 0 →
      let cfg := (s.lock n).config
      ∃ t, exec (.holdExpiry c n) s = .next t
        ∧ if h.phase = .grace ∨ cfg.action = .revoke ∨ (cfg.action = .warnRevoke ∧ cfg.grace = 0) then
            t.Revoked s h
          else if cfg.action = .warn then t.Warned s h none .budget
          else t.Warned s h (some cfg.grace) .grace

/-- R84: the expiry of a due wait countdown ends the wait: a WAITING client becomes READY with a WAIT_ENDED
notice through its reserved slot, a DETACHING one stays so and its slot is freed silently; grant
evaluation follows in the same happening. The clause of the grant evaluation is the model's choice:
step 5 of R84 and R63 give it, R94 (log 13) and R85 (log 14) speak otherwise of expiries due at one
tick, and the model follows R84. -/
def Obligations.WaitExpiryEndsTheWait : Prop :=
  ∀ (c : ClientId) (w : WaitRecord) (s : State),
    (s.client c).wait = some w → w.countdown = some 0 →
      ∃ t u : State, exec (.waitExpiry c) s = .next t
        ∧ t = u.grantEval w.lock
        ∧ if (s.client c).state = .detaching then u.WaitEnded s c w.lock .detaching .expired none
          else u.WaitEnded s c w.lock .ready .expired (some (.waitEnded (slotOf c) w.lock .expired))

/-! ## Background steps -/

/-- R75, R76: a sweep step evaluates the lock at the position unless it is OFFLINE, and advances; the step
that takes lock 63 ends the pass, starting another when AGAIN is set and else setting SWEEP_DONE. -/
def Obligations.SweepStepEvaluatesAndAdvances : Prop :=
  ∀ s : State, s.su.sweep.running = true →
    let n := s.su.sweep.position
    let u := if (s.lock n).state = .offline then s else s.grantEval n
    ∃ t, exec .sweepStep s = .next t
      ∧ t = { u with su := t.su }
      ∧ t.su =
        if n.val < 63 then { s.su with sweep := { s.su.sweep with position := n + 1 } }
        else if s.su.sweep.again = true then
          { s.su with sweep := { running := true, position := 0, again := false } }
        else
          { s.su with
            sweep := { running := false, position := 0, again := false }
            flags := { s.su.flags with sweepDone := true } }

/-- R118: the WAIT step of a client of the ACTIVE job cancels its wait silently, if it has one, and moves on
to the HOLD phase. -/
def Obligations.WaitStepCancelsTheWait : Prop :=
  ∀ (s : State) (j : Job) (sl : Slot), s.activeJob = some { job := j, position := .step sl .wait } →
    let c := clientOf j.agent sl
    ∃ t u : State, exec .waitStep s = .next t
      ∧ t = { u with activeJob := some { job := j, position := .step sl .hold } }
      ∧ match (s.client c).wait with
        | none => u = s
        | some w => ∃ v : State, v.WaitEnded s c w.lock (s.client c).state .cancelled none ∧ u = v.grantEval w.lock

/-- R119, R10: the HOLD step reclaims the client's newest hold, sending no notice and leaving the revoked set
alone, and stays in the HOLD phase; with no hold left it moves on to the FLUSH phase. The premise is
R22's: a client never has two holds on one lock. -/
def Obligations.HoldStepReclaimsTheNewestHold : Prop :=
  ∀ (s : State) (j : Job) (sl : Slot), s.activeJob = some { job := j, position := .step sl .hold } →
    let c := clientOf j.agent sl
    ((s.heldList c).map Hold.lock).Nodup →
      ∃ t : State, exec .holdStep s = .next t
        ∧ (s.heldList c = [] → t = { s with activeJob := some { job := j, position := .step sl .flush } })
        ∧ ∀ older h, s.heldList c = older ++ [h] →
          ∃ u : State, u.HoldRemoved s h .orphaned ∧ t = u.grantEval h.lock

/-- R120, R109: the FLUSH step removes the notices about the client from its agent's queue, keeping the
others in order, takes the client out of the job's set, and moves on to the lowest slot left or to the
final step. -/
def Obligations.FlushStepRemovesTheClientsNotices : Prop :=
  ∀ (s : State) (j : Job) (sl : Slot), s.activeJob = some { job := j, position := .step sl .flush } →
    ∃ (t u : State) (p : Position), exec .flushStep s = .next t
      ∧ u.NuChanged s j.agent
        { s.nu j.agent with
          queue := (s.nu j.agent).queue.filter fun n =>
            match n with
            | .granted sl' _ _ _ _ => sl' != sl
            | .waitEnded sl' _ _ => sl' != sl
            | .warned sl' _ _ => sl' != sl
            | .revoked sl' _ _ => sl' != sl
            | .mail _ _ => true }
      ∧ AtLowest (j.set.set sl false) p
      ∧ t = { u with activeJob := some { job := { j with set := j.set.set sl false }, position := p } }

/-- R121, R123: the final step of a CLIENT-scope job. On an ATTACHED agent the named clients become READY with
last-wait-end CANCELLED; on a DETACHING one they join the agent's WAITING job; JOB_DONE is set and the
next job activated. The premise is R112's: an agent whose job exists is not DETACHED. -/
def Obligations.ClientJobEndReturnsOrCarriesTheClients : Prop :=
  ∀ (s : State) (j : Job), s.activeJob = some { job := j, position := .final } → j.scope = .client →
    (s.line j.agent).attach ≠ .detached →
      ∃ t u : State, exec .clientJobFinalStep s = .next t
        ∧ t.JobEnded u
        ∧ if (s.line j.agent).attach = .attached then
            (∀ c, u.client c =
                if agentOf c = j.agent ∧ j.named.get (slotOf c) = true then
                  { s.client c with state := .ready, lastWaitEnd := .cancelled }
                else s.client c)
              ∧ u = { s with clients := u.clients }
          else
            u = { s with
              waitingJobs :=
                s.waitingJobs.map fun k =>
                  if k.agent = j.agent then
                    { k with set := slotUnion k.set j.named, named := slotUnion k.named j.named }
                  else k }

/-- R122, R123, R110: the final step of an AGENT-scope job. The four clients become OFF, the agent's queue is
emptied and the agent becomes DETACHED, or is attached again when AUTO_ATTACH is set and the line
deasserted; JOB_DONE is set and the next job activated. -/
def Obligations.AgentJobEndTurnsTheClientsOff : Prop :=
  ∀ (s : State) (j : Job), s.activeJob = some { job := j, position := .final } → j.scope = .agent →
    let a := j.agent
    let again := (s.agentConfig a).autoAttach && !(s.line a).asserted
    ∃ t u : State, exec .agentJobFinalStep s = .next t
      ∧ t.JobEnded u
      ∧ (∀ c, u.client c =
        if agentOf c = a then
          { s.client c with
            state := if again = true then .ready else .off
            lastWaitEnd := .none
            revoked := Vector.replicate 64 false }
        else s.client c)
      ∧ u.nu a = { s.nu a with queue := [] }
      ∧ (∀ b, b ≠ a → u.nu b = s.nu b)
      ∧ u.line a = { s.line a with attach := if again = true then .attached else .detached }
      ∧ (∀ b, b ≠ a → u.line b = s.line b)
      ∧ u = { s with clients := u.clients, notices := u.notices, lines := u.lines }

/-- A happening that is not due changes nothing (the model's choice, log 4): an expiry whose countdown is not
due, or no longer (R83), a sweep step while the sweep is idle, and a step of the ACTIVE job other than the
one its position and scope name. -/
def Obligations.HappeningsThatAreNotDueChangeNothing : Prop :=
  ∀ s : State,
    (∀ c n, (∀ h, s.findHold c n = some h → h.countdown ≠ some 0) → exec (.holdExpiry c n) s = .next s)
      ∧ (∀ c, (∀ w, (s.client c).wait = some w → w.countdown ≠ some 0) → exec (.waitExpiry c) s = .next s)
      ∧ (s.su.sweep.running = false → exec .sweepStep s = .next s)
      ∧ ((∀ j sl, s.activeJob ≠ some { job := j, position := .step sl .wait }) → exec .waitStep s = .next s)
      ∧ ((∀ j sl, s.activeJob ≠ some { job := j, position := .step sl .hold }) → exec .holdStep s = .next s)
      ∧ ((∀ j sl, s.activeJob ≠ some { job := j, position := .step sl .flush }) → exec .flushStep s = .next s)
      ∧ ((∀ j, s.activeJob = some { job := j, position := .final } → j.scope = .agent) →
        exec .clientJobFinalStep s = .next s)
      ∧ ((∀ j, s.activeJob = some { job := j, position := .final } → j.scope = .client) →
        exec .agentJobFinalStep s = .next s)

/-! ## Whole-part rules -/

/-- R2, R15: the configuration of a lock, and with it its rank, changes only by SETCFG of that lock while it is
OFFLINE, and at power-on. -/
def Obligations.ConfigurationChangesOnlyBySetcfg : Prop :=
  ∀ (i : Instr) (s t : State) (n : LockId),
    exec i s = .next t → (t.lock n).config ≠ (s.lock n).config →
      (i = .setcfg n ∧ (s.lock n).state = .offline) ∨ ∃ levels, i = .powerOnReset levels

/-- R140, R143, R105, R33: each interrupt output is asserted exactly while a cause holds with its enable set. -/
def Obligations.InterruptOutputsFollowEnabledCauses : Prop :=
  ∀ s : State,
    (∀ a, s.agentInterrupt a = true ↔
      ((s.nu a).threshold.val ≤ (s.nu a).queue.length ∧ (s.nu a).noticeEn = true)
        ∨ ((s.nu a).lost = true ∧ (s.nu a).lostEn = true)
        ∨ ((s.nu a).fault = true ∧ (s.nu a).faultEn = true))
      ∧ (s.supervisorInterrupt = true ↔
        (s.su.flags.accessErr = true ∧ s.su.enables.accessErr = true)
          ∨ (s.su.flags.denial = true ∧ s.su.enables.denial = true)
          ∨ (s.su.flags.lockDead = true ∧ s.su.enables.lockDead = true)
          ∨ (s.su.flags.jobDone = true ∧ s.su.enables.jobDone = true)
          ∨ (s.su.flags.sweepDone = true ∧ s.su.enables.sweepDone = true)
          ∨ (s.freeCount < s.su.poolLowThreshold.val ∧ s.su.poolLowEn = true))

/-- R69: no cycle of clients each of which waits on a lock held by the next. The premise is the law R69 draws
it from, kept by every step (`RankOrderIsKept`). -/
def Obligations.NoCycleOfWaits : Prop :=
  ∀ s : State, s.RankSound → ∀ c, ¬ Relation.TransGen s.WaitsFor c c

/-! ## Laws that every step keeps -/

/-- R3, R4, R5, R61: the holders set of every lock agrees with its state, an OFFLINE or DEAD lock has no waiter,
clean_pending stands exactly in SUSPECT, and no queue passes 31 entries. -/
def Obligations.LockTableLawsAreKept : Prop :=
  ∀ s t : State, s.LocksSound → step s = .next t → t.LocksSound

/-- R20, R21, R29, R31, R59, R60, R96: queues, wait records, reservations and reserved slots agree, every queue
stands in order of priority, and the client states agree with the wait records and holds. -/
def Obligations.QueuesAndWaitRecordsStayInAgreement : Prop :=
  ∀ s t : State, s.Sound → step s = .next t → t.WaitsSound ∧ t.ClientsSound

/-- R22, R25, R31: the pool never passes 96 records in use, no client passes 8 holds or has two on one lock, and
no lock is at once held and in the revoked set. -/
def Obligations.HoldPoolLawsAreKept : Prop :=
  ∀ s t : State, s.Sound → step s = .next t → t.PoolSound

/-- R97 with R96, R101, R138: used plus reserved never passes 16 for any agent, nor do the notices in its queue
plus its clients in state WAITING, and the agent flags agree with their records. -/
def Obligations.NoticeSlotsNeverExceedSixteen : Prop :=
  ∀ s t : State, s.Sound → step s = .next t →
    t.NoticesSound
      ∧ ∀ a, (t.nu a).queue.length + (allSlots.countP fun sl => (t.client (clientOf a sl)).state == .waiting) ≤ 16

/-- R146: the denial record is full exactly while DENIAL is set. -/
def Obligations.DenialRecordIsFullWhileDenialIsSet : Prop :=
  ∀ s t : State, s.DenialSound → step s = .next t → t.DenialSound

/-- R69: for as long as a client waits, the lock it waits on ranks above every lock it holds. -/
def Obligations.RankOrderIsKept : Prop :=
  ∀ s t : State, s.Sound → step s = .next t → t.RankSound

/-- R112, R115: attach states, client states and jobs agree. -/
def Obligations.JobsAgreeWithAttachAndClientStates : Prop :=
  ∀ s t : State, s.Sound → step s = .next t → t.JobsSound

/-- R78: whenever the sweep is idle, no lock has a waiter that grant evaluation would grant. -/
def Obligations.IdleSweepLeavesNoGrantableWaiter : Prop :=
  ∀ s t : State, s.Sound → step s = .next t → t.SweepSound

/-- Every law holds right after reset. -/
def Obligations.ResetStateIsSound : Prop :=
  State.reset.Sound

/-! ## Decoding -/

/-- R163, R129: every ACMD word is one command and every command written to ACMD is one word: the command word
of a command decodes to it, and the word of a decoded command is the word. -/
def Obligations.AcmdWordsAndCommandsCorrespond : Prop :=
  (∀ (i : Instr) (w : Word), WellFormed i = true → encodeAcmd i = some w → ∃ a, decodeAcmd a w = i)
    ∧ ∀ (a : AgentId) (w : Word), WellFormed (decodeAcmd a w) = true ∧ encodeAcmd (decodeAcmd a w) = some w

/-- R168, R149: SCMD takes bits 3:0 as the code and bits 13:8 as the number; the word of a supervisor command
decodes to it, and the other bits are ignored. -/
def Obligations.ScmdWordsDecodeToTheirCommands : Prop :=
  (∀ (i : Instr) (w : Word), WellFormed i = true → encodeScmd i = some w → decodeScmd w = i)
    ∧ (∀ w : Word, WellFormed (decodeScmd w) = true ∧ encodeScmd (decodeScmd w) = some (w &&& 0x00003F0F))

/-- R127, R160, R161, R162: each register stands at its word address, and exactly the offsets the spec lists
are undecoded. -/
def Obligations.RegistersStandAtTheirAddresses : Prop :=
  (∀ r : RegName, regAt r.address = some r)
    ∧ ∀ x : BitVec 14, x.toNat % 4 = 0 →
      (regAt x = none ↔
        (x.toNat < 0x2000
            ∧ ((0x104 ≤ x.toNat % 0x400 ∧ x.toNat % 0x400 ≤ 0x10C) ∨ x.toNat % 0x400 = 0x15C
              ∨ 0x168 ≤ x.toNat % 0x400))
          ∨ (0x2000 ≤ x.toNat ∧ x.toNat < 0x2400
            ∧ ((0x2038 ≤ x.toNat ∧ x.toNat ≤ 0x203C) ∨ (0x2068 ≤ x.toNat ∧ x.toNat ≤ 0x206C)
              ∨ 0x207C ≤ x.toNat))
          ∨ 0x2400 ≤ x.toNat)

/-! ## Register words -/

/-- R161, R162, R166, R167, R168, R169: the fields a read of each register shows, every other bit 0, with the
codes of the tables. The INSPECT words and CSTAT stand in `InspectLockShowsTheRecord` and
`InspectClientShowsTheContext`, NPEEK in `NoticeReadsPopTheHead`. A count too large for its field, which
no run reaches, is cut to it. -/
def Obligations.RegistersReadTheirFields : Prop :=
  (∀ (s : State) (a : AgentId),
    let agent (r : AgentReg) (v : Nat) := s.readReg (.agent a r) = some (BitVec.ofNat 32 v)
    (∀ sl, s.readReg (.agent a (.result sl)) = some (s.client (clientOf a sl)).result.encode
        ∧ agent (.waitlim sl) (s.client (clientOf a sl)).waitLimit.toNat)
      ∧ agent .acmd 0
      ∧ agent .nqstat ((s.nu a).lostRevoked.toNat * 2 ^ 17 + (s.nu a).lostWarned.toNat * 2 ^ 16
        + (s.nu a).reserved % 8 * 2 ^ 8 + (s.nu a).queue.length % 32)
      ∧ agent .nqcfg (s.nu a).threshold
      ∧ agent .aflags ((s.nu a).multi.toNat * 4 + (s.nu a).fault.toNat * 2 + (s.nu a).lost.toNat)
      ∧ agent .aen ((s.nu a).faultEn.toNat * 4 + (s.nu a).lostEn.toNat * 2 + (s.nu a).noticeEn.toNat)
      ∧ ((s.nu a).faultRecord = none → agent .faultrec 0)
      ∧ (∀ r, (s.nu a).faultRecord = some r → r.fault.isFault = true →
        agent .faultrec ((r.fault.code.toNat - 0x80) * 2 ^ 28 + r.window.toNat * 2 ^ 24 + r.command.toNat))
      ∧ agent .wincfg ((s.window a).priority * 2 ^ 8 + (s.window a).slot)
      ∧ agent .ainfo ((s.agentConfig a).mask.toNat * 2 ^ 8 + (s.line a).attach.code.toNat * 2 ^ 4 + a))
    ∧ (∀ s : State,
      let control (r : ControlReg) (v : Nat) := s.readReg (.control r) = some (BitVec.ofNat 32 v)
      let flags (f : SupFlags) (poolLow : Bool) :=
        poolLow.toNat * 2 ^ 8 + f.sweepDone.toNat * 16 + f.jobDone.toNat * 8 + f.lockDead.toNat * 4
          + f.denial.toNat * 2 + f.accessErr.toNat
      control .scmd 0
        ∧ control .sresult (s.su.sresult.number * 2 ^ 16 + s.su.sresult.command.toNat * 2 ^ 8
          + s.su.sresult.result.code.toNat)
        ∧ control .cfgA (s.su.cfgA.action.toNat * 2 ^ 12 + s.su.cfgA.renewable.toNat * 2 ^ 9
          + s.su.cfgA.sharedOk.toNat * 2 ^ 8 + s.su.cfgA.domain * 2 ^ 4 + s.su.cfgA.ceiling)
        ∧ control .cfgB (s.su.cfgB.grace.toNat * 2 ^ 16 + s.su.cfgB.budget.toNat)
        ∧ (∀ i, s.readReg (.control (.inspect i)) = some (s.su.inspect.get i))
        ∧ control .gate s.su.gate
        ∧ control .sweepstat (s.su.sweep.again.toNat * 2 ^ 16 + s.su.sweep.position * 2 ^ 8
          + s.su.sweep.running.toNat)
        ∧ control .tbctrl (s.tb.prescale.toNat * 2 ^ 16 + s.tb.run.toNat)
        ∧ control .tbnow s.tb.now.toNat
        ∧ control .poolstat (s.su.poolLowThreshold * 2 ^ 16 + s.freeCount)
        ∧ (s.activeJob = none → control .jobstat (s.waitingJobs.length % 16 * 2 ^ 16))
        ∧ (∀ x, s.activeJob = some x →
          control .jobstat (s.waitingJobs.length % 16 * 2 ^ 16 + 2 ^ 15 + (x.job.set.get 3).toNat * 2 ^ 7
            + (x.job.set.get 2).toNat * 2 ^ 6 + (x.job.set.get 1).toNat * 2 ^ 5 + (x.job.set.get 0).toNat * 2 ^ 4
            + x.job.agent))
        ∧ (∀ a, control (.agcfg a) ((s.agentConfig a).autoAttach.toNat * 2 ^ 8 + (s.agentConfig a).mask.toNat))
        ∧ (∀ a : AgentId, (s.readControlReg .agstate).extractLsb' (2 * a.val) 2 = (s.line a).attach.code)
        ∧ (s.readControlReg .agstate).extractLsb' 16 16 = 0
        ∧ (∀ a : AgentId, (s.readControlReg .linestat).getLsbD a = (s.line a).asserted)
        ∧ (s.readControlReg .linestat).extractLsb' 8 24 = 0
        ∧ control .sflags (flags s.su.flags (decide (s.freeCount < s.su.poolLowThreshold.val)))
        ∧ control .sen (flags s.su.enables s.su.poolLowEn)
        ∧ (s.su.denialRecord = none → control .denialrec 0)
        ∧ ∀ r, s.su.denialRecord = some r →
          control .denialrec (2 ^ 31 + r.domain * 2 ^ 16 + r.lock * 2 ^ 8 + r.slot * 2 ^ 4 + r.agent))
    ∧ (([.none, .done, .doneEmpty, .badCommand, .notOffline, .notDead, .busy, .already, .lineHeld] :
        List SupResult).map fun r => r.code.toNat) = List.range 9
    ∧ (([.offline, .free, .held, .shared, .suspect, .orphaned, .dead] : List LockState).map fun l => l.code.toNat)
      = List.range 7
    ∧ (([.off, .ready, .waiting, .detaching] : List ClientState).map fun c => c.code.toNat) = List.range 4
    ∧ (([.attached, .detaching, .detached] : List AttachState).map fun l => l.code.toNat) = List.range 3
    ∧ (([.warn, .revoke, .warnRevoke] : List Action).map fun l => l.code.toNat) = List.range 3
    ∧ Phase.budget.bit = 0 ∧ Phase.grace.bit = 1
end

