-- ==== Sys2Proof/Laws/Formats.lean ====
section
/-! SUPPORT. The number a word of fields is: a word is written as the concatenation of its fields, so its
number is the sum of the fields' numbers at their places. -/

namespace Sys2Proof.Machine

/-- The upper part of a word counts at the place the lower part leaves. -/
theorem toNat_append_fields {m n : Nat} (x : BitVec m) (y : BitVec n) :
    (x ++ y).toNat = x.toNat * 2 ^ n + y.toNat := by
  rw [BitVec.toNat_append, ← Nat.shiftLeft_add_eq_or_of_lt y.isLt, Nat.shiftLeft_eq]

theorem bits_toNat (w n : Nat) : (bits w n).toNat = n % 2 ^ w :=
  BitVec.toNat_ofNat n w

/-- A number that fits its field is the number of the field. -/
theorem bits_toNat_of_lt {w n : Nat} (h : n < 2 ^ w) : (bits w n).toNat = n := by
  rw [bits_toNat, Nat.mod_eq_of_lt h]

@[simp] theorem bits_zero_toNat (w : Nat) : (bits w 0).toNat = 0 := by
  simp [bits]

@[simp] theorem flag_toNat (b : Bool) : (flag b).toNat = b.toNat :=
  BitVec.toNat_ofBool b

theorem modeBit_toNat (m : Mode) : (modeBit m).toNat = if m = .shared then 1 else 0 := by
  cases m <;> rfl

theorem WaitEndReason.bit_toNat (r : WaitEndReason) : r.bit.toNat = if r = .dead then 1 else 0 := by
  cases r <;> rfl

/-- Two words are one when their numbers are. -/
theorem word_eq_ofNat {w : Word} {n : Nat} (h : w.toNat = n) : w = BitVec.ofNat 32 n := by
  rw [← h, BitVec.ofNat_toNat, BitVec.setWidth_eq]

/-- The action SETCFG stores for each encoding. -/
theorem Action.ofCode_eq (a : BitVec 2) :
    Action.ofCode a = if a = 1 then .revoke else if a = 2 then .warnRevoke else .warn :=
  rfl

end Sys2Proof.Machine
end

