-- ==== Sys2Proof/Laws/State.lean ====
section
/-! SUPPORT. The small lemmas of State: one lemma per field per update, true by rfl; what each accessor
reads after each update; that the pool views (`holds`, `heldList`, `holders`, `findHold`,
`freeCount`) read the pool alone; and the equations that bring the small operations of Ops down to
the updates, so that `simp` computes with any chain of them. -/

namespace Sys2Proof.Machine

/-! ## Vectors -/

theorem vector_get_set {α : Type} {k : Nat} (v : Vector α k) (i j : Fin k) (x : α) :
    (v.set i x).get j = if j = i then x else v.get j := by
  simp only [Vector.get_eq_getElem, Vector.getElem_set]
  by_cases h : j = i
  · subst h
    simp
  · have h' : ¬ (i : Nat) = (j : Nat) := fun e => h (Fin.ext e.symm)
    simp [h, h']

theorem vector_get_ofFn {α : Type} {k : Nat} (f : Fin k → α) (j : Fin k) : (Vector.ofFn f).get j = f j := by
  simp [Vector.get_eq_getElem]

theorem vector_get_map {α β : Type} {k : Nat} (f : α → β) (v : Vector α k) (j : Fin k) :
    (v.map f).get j = f (v.get j) := by
  simp [Vector.get_eq_getElem]

/-! ## Every field after every update -/

@[simp] theorem State.setLock_locks (s : State) (n : LockId) (r : LockRecord) :
    (s.setLock n r).locks = s.locks.set n r := rfl
@[simp] theorem State.setLock_pool (s : State) (n : LockId) (r : LockRecord) : (s.setLock n r).pool = s.pool := rfl
@[simp] theorem State.setLock_clients (s : State) (n : LockId) (r : LockRecord) :
    (s.setLock n r).clients = s.clients := rfl
@[simp] theorem State.setLock_windows (s : State) (n : LockId) (r : LockRecord) :
    (s.setLock n r).windows = s.windows := rfl
@[simp] theorem State.setLock_notices (s : State) (n : LockId) (r : LockRecord) :
    (s.setLock n r).notices = s.notices := rfl
@[simp] theorem State.setLock_tb (s : State) (n : LockId) (r : LockRecord) : (s.setLock n r).tb = s.tb := rfl
@[simp] theorem State.setLock_lines (s : State) (n : LockId) (r : LockRecord) : (s.setLock n r).lines = s.lines := rfl
@[simp] theorem State.setLock_activeJob (s : State) (n : LockId) (r : LockRecord) :
    (s.setLock n r).activeJob = s.activeJob := rfl
@[simp] theorem State.setLock_waitingJobs (s : State) (n : LockId) (r : LockRecord) :
    (s.setLock n r).waitingJobs = s.waitingJobs := rfl
@[simp] theorem State.setLock_su (s : State) (n : LockId) (r : LockRecord) : (s.setLock n r).su = s.su := rfl
@[simp] theorem State.setLock_busData (s : State) (n : LockId) (r : LockRecord) :
    (s.setLock n r).busData = s.busData := rfl
@[simp] theorem State.setLock_pending (s : State) (n : LockId) (r : LockRecord) :
    (s.setLock n r).pending = s.pending := rfl

@[simp] theorem State.setPool_locks (s : State) (p : List PoolRecord) : (s.setPool p).locks = s.locks := rfl
@[simp] theorem State.setPool_pool (s : State) (p : List PoolRecord) : (s.setPool p).pool = p := rfl
@[simp] theorem State.setPool_clients (s : State) (p : List PoolRecord) : (s.setPool p).clients = s.clients := rfl
@[simp] theorem State.setPool_windows (s : State) (p : List PoolRecord) : (s.setPool p).windows = s.windows := rfl
@[simp] theorem State.setPool_notices (s : State) (p : List PoolRecord) : (s.setPool p).notices = s.notices := rfl
@[simp] theorem State.setPool_tb (s : State) (p : List PoolRecord) : (s.setPool p).tb = s.tb := rfl
@[simp] theorem State.setPool_lines (s : State) (p : List PoolRecord) : (s.setPool p).lines = s.lines := rfl
@[simp] theorem State.setPool_activeJob (s : State) (p : List PoolRecord) :
    (s.setPool p).activeJob = s.activeJob := rfl
@[simp] theorem State.setPool_waitingJobs (s : State) (p : List PoolRecord) :
    (s.setPool p).waitingJobs = s.waitingJobs := rfl
@[simp] theorem State.setPool_su (s : State) (p : List PoolRecord) : (s.setPool p).su = s.su := rfl
@[simp] theorem State.setPool_busData (s : State) (p : List PoolRecord) : (s.setPool p).busData = s.busData := rfl
@[simp] theorem State.setPool_pending (s : State) (p : List PoolRecord) : (s.setPool p).pending = s.pending := rfl

@[simp] theorem State.setClient_locks (s : State) (c : ClientId) (r : Client) :
    (s.setClient c r).locks = s.locks := rfl
@[simp] theorem State.setClient_pool (s : State) (c : ClientId) (r : Client) : (s.setClient c r).pool = s.pool := rfl
@[simp] theorem State.setClient_clients (s : State) (c : ClientId) (r : Client) :
    (s.setClient c r).clients = s.clients.set c r := rfl
@[simp] theorem State.setClient_windows (s : State) (c : ClientId) (r : Client) :
    (s.setClient c r).windows = s.windows := rfl
@[simp] theorem State.setClient_notices (s : State) (c : ClientId) (r : Client) :
    (s.setClient c r).notices = s.notices := rfl
@[simp] theorem State.setClient_tb (s : State) (c : ClientId) (r : Client) : (s.setClient c r).tb = s.tb := rfl
@[simp] theorem State.setClient_lines (s : State) (c : ClientId) (r : Client) :
    (s.setClient c r).lines = s.lines := rfl
@[simp] theorem State.setClient_activeJob (s : State) (c : ClientId) (r : Client) :
    (s.setClient c r).activeJob = s.activeJob := rfl
@[simp] theorem State.setClient_waitingJobs (s : State) (c : ClientId) (r : Client) :
    (s.setClient c r).waitingJobs = s.waitingJobs := rfl
@[simp] theorem State.setClient_su (s : State) (c : ClientId) (r : Client) : (s.setClient c r).su = s.su := rfl
@[simp] theorem State.setClient_busData (s : State) (c : ClientId) (r : Client) :
    (s.setClient c r).busData = s.busData := rfl
@[simp] theorem State.setClient_pending (s : State) (c : ClientId) (r : Client) :
    (s.setClient c r).pending = s.pending := rfl

@[simp] theorem State.setWindow_locks (s : State) (a : AgentId) (w : Window) :
    (s.setWindow a w).locks = s.locks := rfl
@[simp] theorem State.setWindow_pool (s : State) (a : AgentId) (w : Window) : (s.setWindow a w).pool = s.pool := rfl
@[simp] theorem State.setWindow_clients (s : State) (a : AgentId) (w : Window) :
    (s.setWindow a w).clients = s.clients := rfl
@[simp] theorem State.setWindow_windows (s : State) (a : AgentId) (w : Window) :
    (s.setWindow a w).windows = s.windows.set a w := rfl
@[simp] theorem State.setWindow_notices (s : State) (a : AgentId) (w : Window) :
    (s.setWindow a w).notices = s.notices := rfl
@[simp] theorem State.setWindow_tb (s : State) (a : AgentId) (w : Window) : (s.setWindow a w).tb = s.tb := rfl
@[simp] theorem State.setWindow_lines (s : State) (a : AgentId) (w : Window) :
    (s.setWindow a w).lines = s.lines := rfl
@[simp] theorem State.setWindow_activeJob (s : State) (a : AgentId) (w : Window) :
    (s.setWindow a w).activeJob = s.activeJob := rfl
@[simp] theorem State.setWindow_waitingJobs (s : State) (a : AgentId) (w : Window) :
    (s.setWindow a w).waitingJobs = s.waitingJobs := rfl
@[simp] theorem State.setWindow_su (s : State) (a : AgentId) (w : Window) : (s.setWindow a w).su = s.su := rfl
@[simp] theorem State.setWindow_busData (s : State) (a : AgentId) (w : Window) :
    (s.setWindow a w).busData = s.busData := rfl
@[simp] theorem State.setWindow_pending (s : State) (a : AgentId) (w : Window) :
    (s.setWindow a w).pending = s.pending := rfl

@[simp] theorem State.setNu_locks (s : State) (a : AgentId) (r : AgentNotices) : (s.setNu a r).locks = s.locks := rfl
@[simp] theorem State.setNu_pool (s : State) (a : AgentId) (r : AgentNotices) : (s.setNu a r).pool = s.pool := rfl
@[simp] theorem State.setNu_clients (s : State) (a : AgentId) (r : AgentNotices) :
    (s.setNu a r).clients = s.clients := rfl
@[simp] theorem State.setNu_windows (s : State) (a : AgentId) (r : AgentNotices) :
    (s.setNu a r).windows = s.windows := rfl
@[simp] theorem State.setNu_notices (s : State) (a : AgentId) (r : AgentNotices) :
    (s.setNu a r).notices = s.notices.set a r := rfl
@[simp] theorem State.setNu_tb (s : State) (a : AgentId) (r : AgentNotices) : (s.setNu a r).tb = s.tb := rfl
@[simp] theorem State.setNu_lines (s : State) (a : AgentId) (r : AgentNotices) : (s.setNu a r).lines = s.lines := rfl
@[simp] theorem State.setNu_activeJob (s : State) (a : AgentId) (r : AgentNotices) :
    (s.setNu a r).activeJob = s.activeJob := rfl
@[simp] theorem State.setNu_waitingJobs (s : State) (a : AgentId) (r : AgentNotices) :
    (s.setNu a r).waitingJobs = s.waitingJobs := rfl
@[simp] theorem State.setNu_su (s : State) (a : AgentId) (r : AgentNotices) : (s.setNu a r).su = s.su := rfl
@[simp] theorem State.setNu_busData (s : State) (a : AgentId) (r : AgentNotices) :
    (s.setNu a r).busData = s.busData := rfl
@[simp] theorem State.setNu_pending (s : State) (a : AgentId) (r : AgentNotices) :
    (s.setNu a r).pending = s.pending := rfl

@[simp] theorem State.setTb_locks (s : State) (t : TimeBase) : (s.setTb t).locks = s.locks := rfl
@[simp] theorem State.setTb_pool (s : State) (t : TimeBase) : (s.setTb t).pool = s.pool := rfl
@[simp] theorem State.setTb_clients (s : State) (t : TimeBase) : (s.setTb t).clients = s.clients := rfl
@[simp] theorem State.setTb_windows (s : State) (t : TimeBase) : (s.setTb t).windows = s.windows := rfl
@[simp] theorem State.setTb_notices (s : State) (t : TimeBase) : (s.setTb t).notices = s.notices := rfl
@[simp] theorem State.setTb_tb (s : State) (t : TimeBase) : (s.setTb t).tb = t := rfl
@[simp] theorem State.setTb_lines (s : State) (t : TimeBase) : (s.setTb t).lines = s.lines := rfl
@[simp] theorem State.setTb_activeJob (s : State) (t : TimeBase) : (s.setTb t).activeJob = s.activeJob := rfl
@[simp] theorem State.setTb_waitingJobs (s : State) (t : TimeBase) : (s.setTb t).waitingJobs = s.waitingJobs := rfl
@[simp] theorem State.setTb_su (s : State) (t : TimeBase) : (s.setTb t).su = s.su := rfl
@[simp] theorem State.setTb_busData (s : State) (t : TimeBase) : (s.setTb t).busData = s.busData := rfl
@[simp] theorem State.setTb_pending (s : State) (t : TimeBase) : (s.setTb t).pending = s.pending := rfl

@[simp] theorem State.setLine_locks (s : State) (a : AgentId) (r : AgentLine) : (s.setLine a r).locks = s.locks := rfl
@[simp] theorem State.setLine_pool (s : State) (a : AgentId) (r : AgentLine) : (s.setLine a r).pool = s.pool := rfl
@[simp] theorem State.setLine_clients (s : State) (a : AgentId) (r : AgentLine) :
    (s.setLine a r).clients = s.clients := rfl
@[simp] theorem State.setLine_windows (s : State) (a : AgentId) (r : AgentLine) :
    (s.setLine a r).windows = s.windows := rfl
@[simp] theorem State.setLine_notices (s : State) (a : AgentId) (r : AgentLine) :
    (s.setLine a r).notices = s.notices := rfl
@[simp] theorem State.setLine_tb (s : State) (a : AgentId) (r : AgentLine) : (s.setLine a r).tb = s.tb := rfl
@[simp] theorem State.setLine_lines (s : State) (a : AgentId) (r : AgentLine) :
    (s.setLine a r).lines = s.lines.set a r := rfl
@[simp] theorem State.setLine_activeJob (s : State) (a : AgentId) (r : AgentLine) :
    (s.setLine a r).activeJob = s.activeJob := rfl
@[simp] theorem State.setLine_waitingJobs (s : State) (a : AgentId) (r : AgentLine) :
    (s.setLine a r).waitingJobs = s.waitingJobs := rfl
@[simp] theorem State.setLine_su (s : State) (a : AgentId) (r : AgentLine) : (s.setLine a r).su = s.su := rfl
@[simp] theorem State.setLine_busData (s : State) (a : AgentId) (r : AgentLine) :
    (s.setLine a r).busData = s.busData := rfl
@[simp] theorem State.setLine_pending (s : State) (a : AgentId) (r : AgentLine) :
    (s.setLine a r).pending = s.pending := rfl

@[simp] theorem State.setActiveJob_locks (s : State) (j : Option ActiveJob) :
    (s.setActiveJob j).locks = s.locks := rfl
@[simp] theorem State.setActiveJob_pool (s : State) (j : Option ActiveJob) : (s.setActiveJob j).pool = s.pool := rfl
@[simp] theorem State.setActiveJob_clients (s : State) (j : Option ActiveJob) :
    (s.setActiveJob j).clients = s.clients := rfl
@[simp] theorem State.setActiveJob_windows (s : State) (j : Option ActiveJob) :
    (s.setActiveJob j).windows = s.windows := rfl
@[simp] theorem State.setActiveJob_notices (s : State) (j : Option ActiveJob) :
    (s.setActiveJob j).notices = s.notices := rfl
@[simp] theorem State.setActiveJob_tb (s : State) (j : Option ActiveJob) : (s.setActiveJob j).tb = s.tb := rfl
@[simp] theorem State.setActiveJob_lines (s : State) (j : Option ActiveJob) :
    (s.setActiveJob j).lines = s.lines := rfl
@[simp] theorem State.setActiveJob_activeJob (s : State) (j : Option ActiveJob) :
    (s.setActiveJob j).activeJob = j := rfl
@[simp] theorem State.setActiveJob_waitingJobs (s : State) (j : Option ActiveJob) :
    (s.setActiveJob j).waitingJobs = s.waitingJobs := rfl
@[simp] theorem State.setActiveJob_su (s : State) (j : Option ActiveJob) : (s.setActiveJob j).su = s.su := rfl
@[simp] theorem State.setActiveJob_busData (s : State) (j : Option ActiveJob) :
    (s.setActiveJob j).busData = s.busData := rfl
@[simp] theorem State.setActiveJob_pending (s : State) (j : Option ActiveJob) :
    (s.setActiveJob j).pending = s.pending := rfl

@[simp] theorem State.setWaitingJobs_locks (s : State) (js : List Job) : (s.setWaitingJobs js).locks = s.locks := rfl
@[simp] theorem State.setWaitingJobs_pool (s : State) (js : List Job) : (s.setWaitingJobs js).pool = s.pool := rfl
@[simp] theorem State.setWaitingJobs_clients (s : State) (js : List Job) :
    (s.setWaitingJobs js).clients = s.clients := rfl
@[simp] theorem State.setWaitingJobs_windows (s : State) (js : List Job) :
    (s.setWaitingJobs js).windows = s.windows := rfl
@[simp] theorem State.setWaitingJobs_notices (s : State) (js : List Job) :
    (s.setWaitingJobs js).notices = s.notices := rfl
@[simp] theorem State.setWaitingJobs_tb (s : State) (js : List Job) : (s.setWaitingJobs js).tb = s.tb := rfl
@[simp] theorem State.setWaitingJobs_lines (s : State) (js : List Job) : (s.setWaitingJobs js).lines = s.lines := rfl
@[simp] theorem State.setWaitingJobs_activeJob (s : State) (js : List Job) :
    (s.setWaitingJobs js).activeJob = s.activeJob := rfl
@[simp] theorem State.setWaitingJobs_waitingJobs (s : State) (js : List Job) :
    (s.setWaitingJobs js).waitingJobs = js := rfl
@[simp] theorem State.setWaitingJobs_su (s : State) (js : List Job) : (s.setWaitingJobs js).su = s.su := rfl
@[simp] theorem State.setWaitingJobs_busData (s : State) (js : List Job) :
    (s.setWaitingJobs js).busData = s.busData := rfl
@[simp] theorem State.setWaitingJobs_pending (s : State) (js : List Job) :
    (s.setWaitingJobs js).pending = s.pending := rfl

@[simp] theorem State.setSu_locks (s : State) (u : Supervisor) : (s.setSu u).locks = s.locks := rfl
@[simp] theorem State.setSu_pool (s : State) (u : Supervisor) : (s.setSu u).pool = s.pool := rfl
@[simp] theorem State.setSu_clients (s : State) (u : Supervisor) : (s.setSu u).clients = s.clients := rfl
@[simp] theorem State.setSu_windows (s : State) (u : Supervisor) : (s.setSu u).windows = s.windows := rfl
@[simp] theorem State.setSu_notices (s : State) (u : Supervisor) : (s.setSu u).notices = s.notices := rfl
@[simp] theorem State.setSu_tb (s : State) (u : Supervisor) : (s.setSu u).tb = s.tb := rfl
@[simp] theorem State.setSu_lines (s : State) (u : Supervisor) : (s.setSu u).lines = s.lines := rfl
@[simp] theorem State.setSu_activeJob (s : State) (u : Supervisor) : (s.setSu u).activeJob = s.activeJob := rfl
@[simp] theorem State.setSu_waitingJobs (s : State) (u : Supervisor) : (s.setSu u).waitingJobs = s.waitingJobs := rfl
@[simp] theorem State.setSu_su (s : State) (u : Supervisor) : (s.setSu u).su = u := rfl
@[simp] theorem State.setSu_busData (s : State) (u : Supervisor) : (s.setSu u).busData = s.busData := rfl
@[simp] theorem State.setSu_pending (s : State) (u : Supervisor) : (s.setSu u).pending = s.pending := rfl

@[simp] theorem State.setBusData_locks (s : State) (w : Word) : (s.setBusData w).locks = s.locks := rfl
@[simp] theorem State.setBusData_pool (s : State) (w : Word) : (s.setBusData w).pool = s.pool := rfl
@[simp] theorem State.setBusData_clients (s : State) (w : Word) : (s.setBusData w).clients = s.clients := rfl
@[simp] theorem State.setBusData_windows (s : State) (w : Word) : (s.setBusData w).windows = s.windows := rfl
@[simp] theorem State.setBusData_notices (s : State) (w : Word) : (s.setBusData w).notices = s.notices := rfl
@[simp] theorem State.setBusData_tb (s : State) (w : Word) : (s.setBusData w).tb = s.tb := rfl
@[simp] theorem State.setBusData_lines (s : State) (w : Word) : (s.setBusData w).lines = s.lines := rfl
@[simp] theorem State.setBusData_activeJob (s : State) (w : Word) : (s.setBusData w).activeJob = s.activeJob := rfl
@[simp] theorem State.setBusData_waitingJobs (s : State) (w : Word) :
    (s.setBusData w).waitingJobs = s.waitingJobs := rfl
@[simp] theorem State.setBusData_su (s : State) (w : Word) : (s.setBusData w).su = s.su := rfl
@[simp] theorem State.setBusData_busData (s : State) (w : Word) : (s.setBusData w).busData = w := rfl
@[simp] theorem State.setBusData_pending (s : State) (w : Word) : (s.setBusData w).pending = s.pending := rfl

@[simp] theorem State.mapLocks_locks (s : State) (f : LockRecord → LockRecord) :
    (s.mapLocks f).locks = s.locks.map f := rfl
@[simp] theorem State.mapLocks_pool (s : State) (f : LockRecord → LockRecord) : (s.mapLocks f).pool = s.pool := rfl
@[simp] theorem State.mapLocks_clients (s : State) (f : LockRecord → LockRecord) :
    (s.mapLocks f).clients = s.clients := rfl
@[simp] theorem State.mapLocks_windows (s : State) (f : LockRecord → LockRecord) :
    (s.mapLocks f).windows = s.windows := rfl
@[simp] theorem State.mapLocks_notices (s : State) (f : LockRecord → LockRecord) :
    (s.mapLocks f).notices = s.notices := rfl
@[simp] theorem State.mapLocks_tb (s : State) (f : LockRecord → LockRecord) : (s.mapLocks f).tb = s.tb := rfl
@[simp] theorem State.mapLocks_lines (s : State) (f : LockRecord → LockRecord) : (s.mapLocks f).lines = s.lines := rfl
@[simp] theorem State.mapLocks_activeJob (s : State) (f : LockRecord → LockRecord) :
    (s.mapLocks f).activeJob = s.activeJob := rfl
@[simp] theorem State.mapLocks_waitingJobs (s : State) (f : LockRecord → LockRecord) :
    (s.mapLocks f).waitingJobs = s.waitingJobs := rfl
@[simp] theorem State.mapLocks_su (s : State) (f : LockRecord → LockRecord) : (s.mapLocks f).su = s.su := rfl
@[simp] theorem State.mapLocks_busData (s : State) (f : LockRecord → LockRecord) :
    (s.mapLocks f).busData = s.busData := rfl
@[simp] theorem State.mapLocks_pending (s : State) (f : LockRecord → LockRecord) :
    (s.mapLocks f).pending = s.pending := rfl

@[simp] theorem State.mapClients_locks (s : State) (f : ClientId → Client → Client) :
    (s.mapClients f).locks = s.locks := by simp only [State.mapClients]
@[simp] theorem State.mapClients_pool (s : State) (f : ClientId → Client → Client) :
    (s.mapClients f).pool = s.pool := by simp only [State.mapClients]
@[simp] theorem State.mapClients_clients (s : State) (f : ClientId → Client → Client) :
    (s.mapClients f).clients = Vector.ofFn fun c => f c (s.clients.get c) := by simp only [State.mapClients]
@[simp] theorem State.mapClients_windows (s : State) (f : ClientId → Client → Client) :
    (s.mapClients f).windows = s.windows := by simp only [State.mapClients]
@[simp] theorem State.mapClients_notices (s : State) (f : ClientId → Client → Client) :
    (s.mapClients f).notices = s.notices := by simp only [State.mapClients]
@[simp] theorem State.mapClients_tb (s : State) (f : ClientId → Client → Client) :
    (s.mapClients f).tb = s.tb := by simp only [State.mapClients]
@[simp] theorem State.mapClients_lines (s : State) (f : ClientId → Client → Client) :
    (s.mapClients f).lines = s.lines := by simp only [State.mapClients]
@[simp] theorem State.mapClients_activeJob (s : State) (f : ClientId → Client → Client) :
    (s.mapClients f).activeJob = s.activeJob := by simp only [State.mapClients]
@[simp] theorem State.mapClients_waitingJobs (s : State) (f : ClientId → Client → Client) :
    (s.mapClients f).waitingJobs = s.waitingJobs := by simp only [State.mapClients]
@[simp] theorem State.mapClients_su (s : State) (f : ClientId → Client → Client) :
    (s.mapClients f).su = s.su := by simp only [State.mapClients]
@[simp] theorem State.mapClients_busData (s : State) (f : ClientId → Client → Client) :
    (s.mapClients f).busData = s.busData := by simp only [State.mapClients]
@[simp] theorem State.mapClients_pending (s : State) (f : ClientId → Client → Client) :
    (s.mapClients f).pending = s.pending := by simp only [State.mapClients]

@[simp] theorem State.mapNu_locks (s : State) (f : AgentNotices → AgentNotices) : (s.mapNu f).locks = s.locks := rfl
@[simp] theorem State.mapNu_pool (s : State) (f : AgentNotices → AgentNotices) : (s.mapNu f).pool = s.pool := rfl
@[simp] theorem State.mapNu_clients (s : State) (f : AgentNotices → AgentNotices) :
    (s.mapNu f).clients = s.clients := rfl
@[simp] theorem State.mapNu_windows (s : State) (f : AgentNotices → AgentNotices) :
    (s.mapNu f).windows = s.windows := rfl
@[simp] theorem State.mapNu_notices (s : State) (f : AgentNotices → AgentNotices) :
    (s.mapNu f).notices = s.notices.map f := rfl
@[simp] theorem State.mapNu_tb (s : State) (f : AgentNotices → AgentNotices) : (s.mapNu f).tb = s.tb := rfl
@[simp] theorem State.mapNu_lines (s : State) (f : AgentNotices → AgentNotices) : (s.mapNu f).lines = s.lines := rfl
@[simp] theorem State.mapNu_activeJob (s : State) (f : AgentNotices → AgentNotices) :
    (s.mapNu f).activeJob = s.activeJob := rfl
@[simp] theorem State.mapNu_waitingJobs (s : State) (f : AgentNotices → AgentNotices) :
    (s.mapNu f).waitingJobs = s.waitingJobs := rfl
@[simp] theorem State.mapNu_su (s : State) (f : AgentNotices → AgentNotices) : (s.mapNu f).su = s.su := rfl
@[simp] theorem State.mapNu_busData (s : State) (f : AgentNotices → AgentNotices) :
    (s.mapNu f).busData = s.busData := rfl
@[simp] theorem State.mapNu_pending (s : State) (f : AgentNotices → AgentNotices) :
    (s.mapNu f).pending = s.pending := rfl

@[simp] theorem State.mapLines_locks (s : State) (f : AgentId → AgentLine → AgentLine) :
    (s.mapLines f).locks = s.locks := rfl
@[simp] theorem State.mapLines_pool (s : State) (f : AgentId → AgentLine → AgentLine) :
    (s.mapLines f).pool = s.pool := rfl
@[simp] theorem State.mapLines_clients (s : State) (f : AgentId → AgentLine → AgentLine) :
    (s.mapLines f).clients = s.clients := rfl
@[simp] theorem State.mapLines_windows (s : State) (f : AgentId → AgentLine → AgentLine) :
    (s.mapLines f).windows = s.windows := rfl
@[simp] theorem State.mapLines_notices (s : State) (f : AgentId → AgentLine → AgentLine) :
    (s.mapLines f).notices = s.notices := rfl
@[simp] theorem State.mapLines_tb (s : State) (f : AgentId → AgentLine → AgentLine) : (s.mapLines f).tb = s.tb := rfl
@[simp] theorem State.mapLines_lines (s : State) (f : AgentId → AgentLine → AgentLine) :
    (s.mapLines f).lines = Vector.ofFn fun a => f a (s.lines.get a) := rfl
@[simp] theorem State.mapLines_activeJob (s : State) (f : AgentId → AgentLine → AgentLine) :
    (s.mapLines f).activeJob = s.activeJob := rfl
@[simp] theorem State.mapLines_waitingJobs (s : State) (f : AgentId → AgentLine → AgentLine) :
    (s.mapLines f).waitingJobs = s.waitingJobs := rfl
@[simp] theorem State.mapLines_su (s : State) (f : AgentId → AgentLine → AgentLine) : (s.mapLines f).su = s.su := rfl
@[simp] theorem State.mapLines_busData (s : State) (f : AgentId → AgentLine → AgentLine) :
    (s.mapLines f).busData = s.busData := rfl
@[simp] theorem State.mapLines_pending (s : State) (f : AgentId → AgentLine → AgentLine) :
    (s.mapLines f).pending = s.pending := rfl

/-! ## Every accessor after every update -/

@[simp] theorem State.setLock_client (s : State) (n : LockId) (r : LockRecord) (d : ClientId) :
    (s.setLock n r).client d = s.client d := rfl
@[simp] theorem State.setLock_window (s : State) (n : LockId) (r : LockRecord) (b : AgentId) :
    (s.setLock n r).window b = s.window b := rfl
@[simp] theorem State.setLock_nu (s : State) (n : LockId) (r : LockRecord) (b : AgentId) :
    (s.setLock n r).nu b = s.nu b := rfl
@[simp] theorem State.setLock_line (s : State) (n : LockId) (r : LockRecord) (b : AgentId) :
    (s.setLock n r).line b = s.line b := rfl
@[simp] theorem State.setLock_agentConfig (s : State) (n : LockId) (r : LockRecord) (b : AgentId) :
    (s.setLock n r).agentConfig b = s.agentConfig b := rfl

@[simp] theorem State.setPool_lock (s : State) (p : List PoolRecord) (m : LockId) :
    (s.setPool p).lock m = s.lock m := rfl
@[simp] theorem State.setPool_client (s : State) (p : List PoolRecord) (d : ClientId) :
    (s.setPool p).client d = s.client d := rfl
@[simp] theorem State.setPool_window (s : State) (p : List PoolRecord) (b : AgentId) :
    (s.setPool p).window b = s.window b := rfl
@[simp] theorem State.setPool_nu (s : State) (p : List PoolRecord) (b : AgentId) : (s.setPool p).nu b = s.nu b := rfl
@[simp] theorem State.setPool_line (s : State) (p : List PoolRecord) (b : AgentId) :
    (s.setPool p).line b = s.line b := rfl
@[simp] theorem State.setPool_agentConfig (s : State) (p : List PoolRecord) (b : AgentId) :
    (s.setPool p).agentConfig b = s.agentConfig b := rfl

@[simp] theorem State.setClient_lock (s : State) (c : ClientId) (r : Client) (m : LockId) :
    (s.setClient c r).lock m = s.lock m := rfl
@[simp] theorem State.setClient_window (s : State) (c : ClientId) (r : Client) (b : AgentId) :
    (s.setClient c r).window b = s.window b := rfl
@[simp] theorem State.setClient_nu (s : State) (c : ClientId) (r : Client) (b : AgentId) :
    (s.setClient c r).nu b = s.nu b := rfl
@[simp] theorem State.setClient_line (s : State) (c : ClientId) (r : Client) (b : AgentId) :
    (s.setClient c r).line b = s.line b := rfl
@[simp] theorem State.setClient_agentConfig (s : State) (c : ClientId) (r : Client) (b : AgentId) :
    (s.setClient c r).agentConfig b = s.agentConfig b := rfl

@[simp] theorem State.setWindow_lock (s : State) (a : AgentId) (w : Window) (m : LockId) :
    (s.setWindow a w).lock m = s.lock m := rfl
@[simp] theorem State.setWindow_client (s : State) (a : AgentId) (w : Window) (d : ClientId) :
    (s.setWindow a w).client d = s.client d := rfl
@[simp] theorem State.setWindow_nu (s : State) (a : AgentId) (w : Window) (b : AgentId) :
    (s.setWindow a w).nu b = s.nu b := rfl
@[simp] theorem State.setWindow_line (s : State) (a : AgentId) (w : Window) (b : AgentId) :
    (s.setWindow a w).line b = s.line b := rfl
@[simp] theorem State.setWindow_agentConfig (s : State) (a : AgentId) (w : Window) (b : AgentId) :
    (s.setWindow a w).agentConfig b = s.agentConfig b := rfl

@[simp] theorem State.setNu_lock (s : State) (a : AgentId) (r : AgentNotices) (m : LockId) :
    (s.setNu a r).lock m = s.lock m := rfl
@[simp] theorem State.setNu_client (s : State) (a : AgentId) (r : AgentNotices) (d : ClientId) :
    (s.setNu a r).client d = s.client d := rfl
@[simp] theorem State.setNu_window (s : State) (a : AgentId) (r : AgentNotices) (b : AgentId) :
    (s.setNu a r).window b = s.window b := rfl
@[simp] theorem State.setNu_line (s : State) (a : AgentId) (r : AgentNotices) (b : AgentId) :
    (s.setNu a r).line b = s.line b := rfl
@[simp] theorem State.setNu_agentConfig (s : State) (a : AgentId) (r : AgentNotices) (b : AgentId) :
    (s.setNu a r).agentConfig b = s.agentConfig b := rfl

@[simp] theorem State.setTb_lock (s : State) (t : TimeBase) (m : LockId) : (s.setTb t).lock m = s.lock m := rfl
@[simp] theorem State.setTb_client (s : State) (t : TimeBase) (d : ClientId) :
    (s.setTb t).client d = s.client d := rfl
@[simp] theorem State.setTb_window (s : State) (t : TimeBase) (b : AgentId) : (s.setTb t).window b = s.window b := rfl
@[simp] theorem State.setTb_nu (s : State) (t : TimeBase) (b : AgentId) : (s.setTb t).nu b = s.nu b := rfl
@[simp] theorem State.setTb_line (s : State) (t : TimeBase) (b : AgentId) : (s.setTb t).line b = s.line b := rfl
@[simp] theorem State.setTb_agentConfig (s : State) (t : TimeBase) (b : AgentId) :
    (s.setTb t).agentConfig b = s.agentConfig b := rfl

@[simp] theorem State.setLine_lock (s : State) (a : AgentId) (r : AgentLine) (m : LockId) :
    (s.setLine a r).lock m = s.lock m := rfl
@[simp] theorem State.setLine_client (s : State) (a : AgentId) (r : AgentLine) (d : ClientId) :
    (s.setLine a r).client d = s.client d := rfl
@[simp] theorem State.setLine_window (s : State) (a : AgentId) (r : AgentLine) (b : AgentId) :
    (s.setLine a r).window b = s.window b := rfl
@[simp] theorem State.setLine_nu (s : State) (a : AgentId) (r : AgentLine) (b : AgentId) :
    (s.setLine a r).nu b = s.nu b := rfl
@[simp] theorem State.setLine_agentConfig (s : State) (a : AgentId) (r : AgentLine) (b : AgentId) :
    (s.setLine a r).agentConfig b = s.agentConfig b := rfl

@[simp] theorem State.setActiveJob_lock (s : State) (j : Option ActiveJob) (m : LockId) :
    (s.setActiveJob j).lock m = s.lock m := rfl
@[simp] theorem State.setActiveJob_client (s : State) (j : Option ActiveJob) (d : ClientId) :
    (s.setActiveJob j).client d = s.client d := rfl
@[simp] theorem State.setActiveJob_window (s : State) (j : Option ActiveJob) (b : AgentId) :
    (s.setActiveJob j).window b = s.window b := rfl
@[simp] theorem State.setActiveJob_nu (s : State) (j : Option ActiveJob) (b : AgentId) :
    (s.setActiveJob j).nu b = s.nu b := rfl
@[simp] theorem State.setActiveJob_line (s : State) (j : Option ActiveJob) (b : AgentId) :
    (s.setActiveJob j).line b = s.line b := rfl
@[simp] theorem State.setActiveJob_agentConfig (s : State) (j : Option ActiveJob) (b : AgentId) :
    (s.setActiveJob j).agentConfig b = s.agentConfig b := rfl

@[simp] theorem State.setWaitingJobs_lock (s : State) (js : List Job) (m : LockId) :
    (s.setWaitingJobs js).lock m = s.lock m := rfl
@[simp] theorem State.setWaitingJobs_client (s : State) (js : List Job) (d : ClientId) :
    (s.setWaitingJobs js).client d = s.client d := rfl
@[simp] theorem State.setWaitingJobs_window (s : State) (js : List Job) (b : AgentId) :
    (s.setWaitingJobs js).window b = s.window b := rfl
@[simp] theorem State.setWaitingJobs_nu (s : State) (js : List Job) (b : AgentId) :
    (s.setWaitingJobs js).nu b = s.nu b := rfl
@[simp] theorem State.setWaitingJobs_line (s : State) (js : List Job) (b : AgentId) :
    (s.setWaitingJobs js).line b = s.line b := rfl
@[simp] theorem State.setWaitingJobs_agentConfig (s : State) (js : List Job) (b : AgentId) :
    (s.setWaitingJobs js).agentConfig b = s.agentConfig b := rfl

@[simp] theorem State.setSu_lock (s : State) (u : Supervisor) (m : LockId) : (s.setSu u).lock m = s.lock m := rfl
@[simp] theorem State.setSu_client (s : State) (u : Supervisor) (d : ClientId) :
    (s.setSu u).client d = s.client d := rfl
@[simp] theorem State.setSu_window (s : State) (u : Supervisor) (b : AgentId) :
    (s.setSu u).window b = s.window b := rfl
@[simp] theorem State.setSu_nu (s : State) (u : Supervisor) (b : AgentId) : (s.setSu u).nu b = s.nu b := rfl
@[simp] theorem State.setSu_line (s : State) (u : Supervisor) (b : AgentId) : (s.setSu u).line b = s.line b := rfl

@[simp] theorem State.setBusData_lock (s : State) (w : Word) (m : LockId) : (s.setBusData w).lock m = s.lock m := rfl
@[simp] theorem State.setBusData_client (s : State) (w : Word) (d : ClientId) :
    (s.setBusData w).client d = s.client d := rfl
@[simp] theorem State.setBusData_window (s : State) (w : Word) (b : AgentId) :
    (s.setBusData w).window b = s.window b := rfl
@[simp] theorem State.setBusData_nu (s : State) (w : Word) (b : AgentId) : (s.setBusData w).nu b = s.nu b := rfl
@[simp] theorem State.setBusData_line (s : State) (w : Word) (b : AgentId) : (s.setBusData w).line b = s.line b := rfl
@[simp] theorem State.setBusData_agentConfig (s : State) (w : Word) (b : AgentId) :
    (s.setBusData w).agentConfig b = s.agentConfig b := rfl

@[simp] theorem State.mapLocks_client (s : State) (f : LockRecord → LockRecord) (d : ClientId) :
    (s.mapLocks f).client d = s.client d := rfl
@[simp] theorem State.mapLocks_window (s : State) (f : LockRecord → LockRecord) (b : AgentId) :
    (s.mapLocks f).window b = s.window b := rfl
@[simp] theorem State.mapLocks_nu (s : State) (f : LockRecord → LockRecord) (b : AgentId) :
    (s.mapLocks f).nu b = s.nu b := rfl
@[simp] theorem State.mapLocks_line (s : State) (f : LockRecord → LockRecord) (b : AgentId) :
    (s.mapLocks f).line b = s.line b := rfl
@[simp] theorem State.mapLocks_agentConfig (s : State) (f : LockRecord → LockRecord) (b : AgentId) :
    (s.mapLocks f).agentConfig b = s.agentConfig b := rfl

@[simp] theorem State.mapClients_lock (s : State) (f : ClientId → Client → Client) (m : LockId) :
    (s.mapClients f).lock m = s.lock m := by simp only [State.mapClients, State.lock]
@[simp] theorem State.mapClients_window (s : State) (f : ClientId → Client → Client) (b : AgentId) :
    (s.mapClients f).window b = s.window b := by simp only [State.mapClients, State.window]
@[simp] theorem State.mapClients_nu (s : State) (f : ClientId → Client → Client) (b : AgentId) :
    (s.mapClients f).nu b = s.nu b := by simp only [State.mapClients, State.nu]
@[simp] theorem State.mapClients_line (s : State) (f : ClientId → Client → Client) (b : AgentId) :
    (s.mapClients f).line b = s.line b := by simp only [State.mapClients, State.line]
@[simp] theorem State.mapClients_agentConfig (s : State) (f : ClientId → Client → Client) (b : AgentId) :
    (s.mapClients f).agentConfig b = s.agentConfig b := by simp only [State.mapClients, State.agentConfig]

@[simp] theorem State.mapNu_lock (s : State) (f : AgentNotices → AgentNotices) (m : LockId) :
    (s.mapNu f).lock m = s.lock m := rfl
@[simp] theorem State.mapNu_client (s : State) (f : AgentNotices → AgentNotices) (d : ClientId) :
    (s.mapNu f).client d = s.client d := rfl
@[simp] theorem State.mapNu_window (s : State) (f : AgentNotices → AgentNotices) (b : AgentId) :
    (s.mapNu f).window b = s.window b := rfl
@[simp] theorem State.mapNu_line (s : State) (f : AgentNotices → AgentNotices) (b : AgentId) :
    (s.mapNu f).line b = s.line b := rfl
@[simp] theorem State.mapNu_agentConfig (s : State) (f : AgentNotices → AgentNotices) (b : AgentId) :
    (s.mapNu f).agentConfig b = s.agentConfig b := rfl

@[simp] theorem State.mapLines_lock (s : State) (f : AgentId → AgentLine → AgentLine) (m : LockId) :
    (s.mapLines f).lock m = s.lock m := rfl
@[simp] theorem State.mapLines_client (s : State) (f : AgentId → AgentLine → AgentLine) (d : ClientId) :
    (s.mapLines f).client d = s.client d := rfl
@[simp] theorem State.mapLines_window (s : State) (f : AgentId → AgentLine → AgentLine) (b : AgentId) :
    (s.mapLines f).window b = s.window b := rfl
@[simp] theorem State.mapLines_nu (s : State) (f : AgentId → AgentLine → AgentLine) (b : AgentId) :
    (s.mapLines f).nu b = s.nu b := rfl
@[simp] theorem State.mapLines_agentConfig (s : State) (f : AgentId → AgentLine → AgentLine) (b : AgentId) :
    (s.mapLines f).agentConfig b = s.agentConfig b := rfl

@[simp] theorem State.setLock_lock (s : State) (n : LockId) (r : LockRecord) (m : LockId) :
    (s.setLock n r).lock m = if m = n then r else s.lock m := vector_get_set _ _ _ _

@[simp] theorem State.setClient_client (s : State) (c : ClientId) (r : Client) (d : ClientId) :
    (s.setClient c r).client d = if d = c then r else s.client d := vector_get_set _ _ _ _

@[simp] theorem State.setWindow_window (s : State) (a : AgentId) (w : Window) (b : AgentId) :
    (s.setWindow a w).window b = if b = a then w else s.window b := vector_get_set _ _ _ _

@[simp] theorem State.setNu_nu (s : State) (a : AgentId) (r : AgentNotices) (b : AgentId) :
    (s.setNu a r).nu b = if b = a then r else s.nu b := vector_get_set _ _ _ _

@[simp] theorem State.setLine_line (s : State) (a : AgentId) (r : AgentLine) (b : AgentId) :
    (s.setLine a r).line b = if b = a then r else s.line b := vector_get_set _ _ _ _

@[simp] theorem State.setSu_agentConfig (s : State) (u : Supervisor) (b : AgentId) :
    (s.setSu u).agentConfig b = u.agents.get b := rfl

@[simp] theorem State.mapLocks_lock (s : State) (f : LockRecord → LockRecord) (m : LockId) :
    (s.mapLocks f).lock m = f (s.lock m) := vector_get_map _ _ _

@[simp] theorem State.mapClients_client (s : State) (f : ClientId → Client → Client) (d : ClientId) :
    (s.mapClients f).client d = f d (s.client d) := vector_get_ofFn _ _

@[simp] theorem State.mapNu_nu (s : State) (f : AgentNotices → AgentNotices) (b : AgentId) :
    (s.mapNu f).nu b = f (s.nu b) := vector_get_map _ _ _

@[simp] theorem State.mapLines_line (s : State) (f : AgentId → AgentLine → AgentLine) (b : AgentId) :
    (s.mapLines f).line b = f b (s.line b) := vector_get_ofFn _ _

/-! ## The pool views read the pool alone -/

@[simp] theorem State.setLock_holds (s : State) (n : LockId) (r : LockRecord) : (s.setLock n r).holds = s.holds := rfl
@[simp] theorem State.setLock_heldList (s : State) (n : LockId) (r : LockRecord) (d : ClientId) :
    (s.setLock n r).heldList d = s.heldList d := rfl
@[simp] theorem State.setLock_holders (s : State) (n : LockId) (r : LockRecord) (m : LockId) :
    (s.setLock n r).holders m = s.holders m := rfl
@[simp] theorem State.setLock_findHold (s : State) (n : LockId) (r : LockRecord) (d : ClientId) (m : LockId) :
    (s.setLock n r).findHold d m = s.findHold d m := rfl
@[simp] theorem State.setLock_freeCount (s : State) (n : LockId) (r : LockRecord) :
    (s.setLock n r).freeCount = s.freeCount := rfl

@[simp] theorem State.setClient_holds (s : State) (c : ClientId) (r : Client) :
    (s.setClient c r).holds = s.holds := rfl
@[simp] theorem State.setClient_heldList (s : State) (c : ClientId) (r : Client) (d : ClientId) :
    (s.setClient c r).heldList d = s.heldList d := rfl
@[simp] theorem State.setClient_holders (s : State) (c : ClientId) (r : Client) (m : LockId) :
    (s.setClient c r).holders m = s.holders m := rfl
@[simp] theorem State.setClient_findHold (s : State) (c : ClientId) (r : Client) (d : ClientId) (m : LockId) :
    (s.setClient c r).findHold d m = s.findHold d m := rfl
@[simp] theorem State.setClient_freeCount (s : State) (c : ClientId) (r : Client) :
    (s.setClient c r).freeCount = s.freeCount := rfl

@[simp] theorem State.setWindow_holds (s : State) (a : AgentId) (w : Window) :
    (s.setWindow a w).holds = s.holds := rfl
@[simp] theorem State.setWindow_heldList (s : State) (a : AgentId) (w : Window) (d : ClientId) :
    (s.setWindow a w).heldList d = s.heldList d := rfl
@[simp] theorem State.setWindow_holders (s : State) (a : AgentId) (w : Window) (m : LockId) :
    (s.setWindow a w).holders m = s.holders m := rfl
@[simp] theorem State.setWindow_findHold (s : State) (a : AgentId) (w : Window) (d : ClientId) (m : LockId) :
    (s.setWindow a w).findHold d m = s.findHold d m := rfl
@[simp] theorem State.setWindow_freeCount (s : State) (a : AgentId) (w : Window) :
    (s.setWindow a w).freeCount = s.freeCount := rfl

@[simp] theorem State.setNu_holds (s : State) (a : AgentId) (r : AgentNotices) : (s.setNu a r).holds = s.holds := rfl
@[simp] theorem State.setNu_heldList (s : State) (a : AgentId) (r : AgentNotices) (d : ClientId) :
    (s.setNu a r).heldList d = s.heldList d := rfl
@[simp] theorem State.setNu_holders (s : State) (a : AgentId) (r : AgentNotices) (m : LockId) :
    (s.setNu a r).holders m = s.holders m := rfl
@[simp] theorem State.setNu_findHold (s : State) (a : AgentId) (r : AgentNotices) (d : ClientId) (m : LockId) :
    (s.setNu a r).findHold d m = s.findHold d m := rfl
@[simp] theorem State.setNu_freeCount (s : State) (a : AgentId) (r : AgentNotices) :
    (s.setNu a r).freeCount = s.freeCount := rfl

@[simp] theorem State.setTb_holds (s : State) (t : TimeBase) : (s.setTb t).holds = s.holds := rfl
@[simp] theorem State.setTb_heldList (s : State) (t : TimeBase) (d : ClientId) :
    (s.setTb t).heldList d = s.heldList d := rfl
@[simp] theorem State.setTb_holders (s : State) (t : TimeBase) (m : LockId) :
    (s.setTb t).holders m = s.holders m := rfl
@[simp] theorem State.setTb_findHold (s : State) (t : TimeBase) (d : ClientId) (m : LockId) :
    (s.setTb t).findHold d m = s.findHold d m := rfl
@[simp] theorem State.setTb_freeCount (s : State) (t : TimeBase) : (s.setTb t).freeCount = s.freeCount := rfl

@[simp] theorem State.setLine_holds (s : State) (a : AgentId) (r : AgentLine) : (s.setLine a r).holds = s.holds := rfl
@[simp] theorem State.setLine_heldList (s : State) (a : AgentId) (r : AgentLine) (d : ClientId) :
    (s.setLine a r).heldList d = s.heldList d := rfl
@[simp] theorem State.setLine_holders (s : State) (a : AgentId) (r : AgentLine) (m : LockId) :
    (s.setLine a r).holders m = s.holders m := rfl
@[simp] theorem State.setLine_findHold (s : State) (a : AgentId) (r : AgentLine) (d : ClientId) (m : LockId) :
    (s.setLine a r).findHold d m = s.findHold d m := rfl
@[simp] theorem State.setLine_freeCount (s : State) (a : AgentId) (r : AgentLine) :
    (s.setLine a r).freeCount = s.freeCount := rfl

@[simp] theorem State.setActiveJob_holds (s : State) (j : Option ActiveJob) :
    (s.setActiveJob j).holds = s.holds := rfl
@[simp] theorem State.setActiveJob_heldList (s : State) (j : Option ActiveJob) (d : ClientId) :
    (s.setActiveJob j).heldList d = s.heldList d := rfl
@[simp] theorem State.setActiveJob_holders (s : State) (j : Option ActiveJob) (m : LockId) :
    (s.setActiveJob j).holders m = s.holders m := rfl
@[simp] theorem State.setActiveJob_findHold (s : State) (j : Option ActiveJob) (d : ClientId) (m : LockId) :
    (s.setActiveJob j).findHold d m = s.findHold d m := rfl
@[simp] theorem State.setActiveJob_freeCount (s : State) (j : Option ActiveJob) :
    (s.setActiveJob j).freeCount = s.freeCount := rfl

@[simp] theorem State.setWaitingJobs_holds (s : State) (js : List Job) : (s.setWaitingJobs js).holds = s.holds := rfl
@[simp] theorem State.setWaitingJobs_heldList (s : State) (js : List Job) (d : ClientId) :
    (s.setWaitingJobs js).heldList d = s.heldList d := rfl
@[simp] theorem State.setWaitingJobs_holders (s : State) (js : List Job) (m : LockId) :
    (s.setWaitingJobs js).holders m = s.holders m := rfl
@[simp] theorem State.setWaitingJobs_findHold (s : State) (js : List Job) (d : ClientId) (m : LockId) :
    (s.setWaitingJobs js).findHold d m = s.findHold d m := rfl
@[simp] theorem State.setWaitingJobs_freeCount (s : State) (js : List Job) :
    (s.setWaitingJobs js).freeCount = s.freeCount := rfl

@[simp] theorem State.setSu_holds (s : State) (u : Supervisor) : (s.setSu u).holds = s.holds := rfl
@[simp] theorem State.setSu_heldList (s : State) (u : Supervisor) (d : ClientId) :
    (s.setSu u).heldList d = s.heldList d := rfl
@[simp] theorem State.setSu_holders (s : State) (u : Supervisor) (m : LockId) :
    (s.setSu u).holders m = s.holders m := rfl
@[simp] theorem State.setSu_findHold (s : State) (u : Supervisor) (d : ClientId) (m : LockId) :
    (s.setSu u).findHold d m = s.findHold d m := rfl
@[simp] theorem State.setSu_freeCount (s : State) (u : Supervisor) : (s.setSu u).freeCount = s.freeCount := rfl

@[simp] theorem State.setBusData_holds (s : State) (w : Word) : (s.setBusData w).holds = s.holds := rfl
@[simp] theorem State.setBusData_heldList (s : State) (w : Word) (d : ClientId) :
    (s.setBusData w).heldList d = s.heldList d := rfl
@[simp] theorem State.setBusData_holders (s : State) (w : Word) (m : LockId) :
    (s.setBusData w).holders m = s.holders m := rfl
@[simp] theorem State.setBusData_findHold (s : State) (w : Word) (d : ClientId) (m : LockId) :
    (s.setBusData w).findHold d m = s.findHold d m := rfl
@[simp] theorem State.setBusData_freeCount (s : State) (w : Word) : (s.setBusData w).freeCount = s.freeCount := rfl

@[simp] theorem State.mapLocks_holds (s : State) (f : LockRecord → LockRecord) : (s.mapLocks f).holds = s.holds := rfl
@[simp] theorem State.mapLocks_heldList (s : State) (f : LockRecord → LockRecord) (d : ClientId) :
    (s.mapLocks f).heldList d = s.heldList d := rfl
@[simp] theorem State.mapLocks_holders (s : State) (f : LockRecord → LockRecord) (m : LockId) :
    (s.mapLocks f).holders m = s.holders m := rfl
@[simp] theorem State.mapLocks_findHold (s : State) (f : LockRecord → LockRecord) (d : ClientId) (m : LockId) :
    (s.mapLocks f).findHold d m = s.findHold d m := rfl
@[simp] theorem State.mapLocks_freeCount (s : State) (f : LockRecord → LockRecord) :
    (s.mapLocks f).freeCount = s.freeCount := rfl

@[simp] theorem State.mapClients_holds (s : State) (f : ClientId → Client → Client) :
    (s.mapClients f).holds = s.holds := by simp only [State.mapClients, State.holds]
@[simp] theorem State.mapClients_heldList (s : State) (f : ClientId → Client → Client) (d : ClientId) :
    (s.mapClients f).heldList d = s.heldList d := by simp only [State.mapClients, State.heldList, State.holds]
@[simp] theorem State.mapClients_holders (s : State) (f : ClientId → Client → Client) (m : LockId) :
    (s.mapClients f).holders m = s.holders m := by simp only [State.mapClients, State.holders, State.holds]
@[simp] theorem State.mapClients_findHold (s : State) (f : ClientId → Client → Client) (d : ClientId) (m : LockId) :
    (s.mapClients f).findHold d m = s.findHold d m := by simp only [State.mapClients, State.findHold, State.holds]
@[simp] theorem State.mapClients_freeCount (s : State) (f : ClientId → Client → Client) :
    (s.mapClients f).freeCount = s.freeCount := by simp only [State.mapClients, State.freeCount]

@[simp] theorem State.mapNu_holds (s : State) (f : AgentNotices → AgentNotices) : (s.mapNu f).holds = s.holds := rfl
@[simp] theorem State.mapNu_heldList (s : State) (f : AgentNotices → AgentNotices) (d : ClientId) :
    (s.mapNu f).heldList d = s.heldList d := rfl
@[simp] theorem State.mapNu_holders (s : State) (f : AgentNotices → AgentNotices) (m : LockId) :
    (s.mapNu f).holders m = s.holders m := rfl
@[simp] theorem State.mapNu_findHold (s : State) (f : AgentNotices → AgentNotices) (d : ClientId) (m : LockId) :
    (s.mapNu f).findHold d m = s.findHold d m := rfl
@[simp] theorem State.mapNu_freeCount (s : State) (f : AgentNotices → AgentNotices) :
    (s.mapNu f).freeCount = s.freeCount := rfl

@[simp] theorem State.mapLines_holds (s : State) (f : AgentId → AgentLine → AgentLine) :
    (s.mapLines f).holds = s.holds := rfl
@[simp] theorem State.mapLines_heldList (s : State) (f : AgentId → AgentLine → AgentLine) (d : ClientId) :
    (s.mapLines f).heldList d = s.heldList d := rfl
@[simp] theorem State.mapLines_holders (s : State) (f : AgentId → AgentLine → AgentLine) (m : LockId) :
    (s.mapLines f).holders m = s.holders m := rfl
@[simp] theorem State.mapLines_findHold (s : State) (f : AgentId → AgentLine → AgentLine) (d : ClientId) (m : LockId) :
    (s.mapLines f).findHold d m = s.findHold d m := rfl
@[simp] theorem State.mapLines_freeCount (s : State) (f : AgentId → AgentLine → AgentLine) :
    (s.mapLines f).freeCount = s.freeCount := rfl

@[simp] theorem State.setPool_holds (s : State) (p : List PoolRecord) :
    (s.setPool p).holds = p.filterMap PoolRecord.hold? := rfl

/-! ## The small operations, brought down to the updates -/

@[simp] theorem State.setClientState_eq (s : State) (c : ClientId) (st : ClientState) :
    s.setClientState c st = s.setClient c { s.client c with state := st } := rfl

@[simp] theorem State.setWait_eq (s : State) (c : ClientId) (w : Option WaitRecord) :
    s.setWait c w = s.setClient c { s.client c with wait := w } := rfl

@[simp] theorem State.setLastWaitEnd_eq (s : State) (c : ClientId) (e : WaitEnd) :
    s.setLastWaitEnd c e = s.setClient c { s.client c with lastWaitEnd := e } := rfl

@[simp] theorem State.setResult_eq (s : State) (c : ClientId) (r : ResultWord) :
    s.setResult c r = s.setClient c { s.client c with result := r } := rfl

@[simp] theorem State.setRevoked_eq (s : State) (c : ClientId) (n : LockId) (b : Bool) :
    s.setRevoked c n b = s.setClient c { s.client c with revoked := (s.client c).revoked.set n b } := rfl

@[simp] theorem State.freeHold_eq (s : State) (c : ClientId) (n : LockId) :
    s.freeHold c n = s.setPool (s.pool.eraseP (PoolRecord.isHoldOf c n)) := rfl

@[simp] theorem State.freeReservation_eq (s : State) (c : ClientId) (n : LockId) :
    s.freeReservation c n = s.setPool (s.pool.eraseP (PoolRecord.isReservationOf c n)) := rfl

@[simp] theorem State.addReservation_eq (s : State) (c : ClientId) (n : LockId) :
    s.addReservation c n = s.setPool (s.pool ++ [.reservation c n]) := rfl

@[simp] theorem State.addHold_eq (s : State) (h : Hold) : s.addHold h = s.setPool (s.pool ++ [.hold h]) := rfl

@[simp] theorem State.reserveSlot_eq (s : State) (a : AgentId) :
    s.reserveSlot a = s.setNu a { s.nu a with reserved := (s.nu a).reserved + 1 } := rfl

@[simp] theorem State.freeSlot_eq (s : State) (a : AgentId) :
    s.freeSlot a = s.setNu a { s.nu a with reserved := (s.nu a).reserved - 1 } := rfl

@[simp] theorem State.appendNotice_eq (s : State) (a : AgentId) (n : Notice) :
    s.appendNotice a n = s.setNu a { s.nu a with queue := (s.nu a).queue ++ [n] } := rfl

@[simp] theorem State.flushAgent_eq (s : State) (a : AgentId) :
    s.flushAgent a = s.setNu a { s.nu a with queue := [] } := rfl

@[simp] theorem State.setSResult_eq (s : State) (r : SupResult) (code : BitVec 4) (number : Fin 64) :
    s.setSResult r code number =
      s.setSu { s.su with sresult := { result := r, command := code, number := number } } := rfl

@[simp] theorem State.raise_eq (s : State) (f : SupFlags → SupFlags) :
    s.raise f = s.setSu { s.su with flags := f s.su.flags } := rfl

@[simp] theorem State.setInspect_eq (s : State) (v : Vector Word 4) :
    s.setInspect v = s.setSu { s.su with inspect := v } := rfl

@[simp] theorem State.setAttach_eq (s : State) (a : AgentId) (st : AttachState) :
    s.setAttach a st = s.setLine a { s.line a with attach := st } := rfl

@[simp] theorem State.setLevel_eq (s : State) (a : AgentId) (b : Bool) :
    s.setLevel a b = s.setLine a { s.line a with asserted := b } := rfl

/-! ## Setting a part twice, or to what it is -/

@[simp] theorem State.setLock_setLock (s : State) (n : LockId) (r r' : LockRecord) :
    (s.setLock n r).setLock n r' = s.setLock n r' := by
  simp [State.setLock]

@[simp] theorem State.setLock_self (s : State) (n : LockId) : s.setLock n (s.lock n) = s := by
  simp [State.setLock, State.lock, Vector.get_eq_getElem]

@[simp] theorem State.setClient_setClient (s : State) (c : ClientId) (r r' : Client) :
    (s.setClient c r).setClient c r' = s.setClient c r' := by
  simp [State.setClient]

@[simp] theorem State.setClient_self (s : State) (c : ClientId) : s.setClient c (s.client c) = s := by
  simp [State.setClient, State.client, Vector.get_eq_getElem]

@[simp] theorem State.setNu_setNu (s : State) (a : AgentId) (r r' : AgentNotices) :
    (s.setNu a r).setNu a r' = s.setNu a r' := by
  simp [State.setNu]

@[simp] theorem State.setNu_self (s : State) (a : AgentId) : s.setNu a (s.nu a) = s := by
  simp [State.setNu, State.nu, Vector.get_eq_getElem]

@[simp] theorem State.setLine_setLine (s : State) (a : AgentId) (r r' : AgentLine) :
    (s.setLine a r).setLine a r' = s.setLine a r' := by
  simp [State.setLine]

@[simp] theorem State.setLine_self (s : State) (a : AgentId) : s.setLine a (s.line a) = s := by
  simp [State.setLine, State.line, Vector.get_eq_getElem]

/-! ## Two states are equal when their parts are -/

theorem State.locks_ext {s t : State} (h : ∀ n, s.lock n = t.lock n) : s.locks = t.locks := by
  apply Vector.ext
  intro i hi
  exact h ⟨i, hi⟩

theorem State.clients_ext {s t : State} (h : ∀ c, s.client c = t.client c) : s.clients = t.clients := by
  apply Vector.ext
  intro i hi
  exact h ⟨i, hi⟩

theorem State.notices_ext {s t : State} (h : ∀ a, s.nu a = t.nu a) : s.notices = t.notices := by
  apply Vector.ext
  intro i hi
  exact h ⟨i, hi⟩

theorem State.lines_ext {s t : State} (h : ∀ a, s.line a = t.line a) : s.lines = t.lines := by
  apply Vector.ext
  intro i hi
  exact h ⟨i, hi⟩

/-! ## Clients, agents and slots -/

@[simp] theorem agentOf_clientOf (a : AgentId) (sl : Slot) : agentOf (clientOf a sl) = a := by
  apply Fin.ext
  simp only [agentOf, clientOf]
  omega

@[simp] theorem slotOf_clientOf (a : AgentId) (sl : Slot) : slotOf (clientOf a sl) = sl := by
  apply Fin.ext
  simp only [slotOf, clientOf]
  omega

@[simp] theorem clientOf_agentOf_slotOf (c : ClientId) : clientOf (agentOf c) (slotOf c) = c := by
  apply Fin.ext
  simp only [agentOf, slotOf, clientOf]
  omega

theorem clientOf_eq_iff (a b : AgentId) (sl sm : Slot) : clientOf a sl = clientOf b sm ↔ a = b ∧ sl = sm := by
  constructor
  · intro h
    have ha := congrArg agentOf h
    have hs := congrArg slotOf h
    simp at ha hs
    exact ⟨ha, hs⟩
  · rintro ⟨rfl, rfl⟩
    rfl

@[simp] theorem allSlots_mem (sl : Slot) : sl ∈ allSlots := by
  revert sl
  decide

end Sys2Proof.Machine
end

