-- ==== Sys2Proof/Laws/Ops.lean ====
section
/-! SUPPORT. One lemma for each shared operation of Ops that says everything it can do: the hold pool, the
answer to a command, the passing of a notice, and the rank order. Proofs about commands cite these
and do not unfold the operations. -/

namespace Sys2Proof.Machine

/-! ## The hold pool -/

@[simp] theorem PoolRecord.isReservationOf_iff (c : ClientId) (n : LockId) (r : PoolRecord) :
    PoolRecord.isReservationOf c n r = true ↔ r = .reservation c n := by
  cases r <;> simp [PoolRecord.isReservationOf]

theorem eraseP_isReservationOf (c : ClientId) (n : LockId) (p : List PoolRecord) :
    p.eraseP (PoolRecord.isReservationOf c n) = p.erase (.reservation c n) := by
  have e : PoolRecord.isReservationOf c n = fun r => r == .reservation c n := by
    funext r
    rw [Bool.eq_iff_iff]
    simp
  rw [List.erase_eq_eraseP', e]

/-- The held list of a client is its holds, in the order of their records. -/
theorem State.heldList_eq_filterMap (s : State) (c : ClientId) :
    s.heldList c =
      s.pool.filterMap fun r =>
        match r with
        | .reservation _ _ => none
        | .hold h => if h.client = c then some h else none := by
  simp only [State.heldList, State.holds, List.filter_filterMap]
  congr 1
  funext r
  cases r <;> simp [PoolRecord.hold?, Option.filter]

theorem State.mem_holds_iff (s : State) (h : Hold) : h ∈ s.holds ↔ PoolRecord.hold h ∈ s.pool := by
  simp only [State.holds, List.mem_filterMap]
  constructor
  · rintro ⟨r, hr, e⟩
    cases r with
    | reservation c n => simp [PoolRecord.hold?] at e
    | hold h' =>
      simp [PoolRecord.hold?] at e
      exact e ▸ hr
  · intro hp
    exact ⟨_, hp, rfl⟩

theorem State.mem_heldList_iff (s : State) (c : ClientId) (h : Hold) :
    h ∈ s.heldList c ↔ PoolRecord.hold h ∈ s.pool ∧ h.client = c := by
  simp [State.heldList, s.mem_holds_iff]

theorem State.mem_holders_iff (s : State) (n : LockId) (h : Hold) :
    h ∈ s.holders n ↔ PoolRecord.hold h ∈ s.pool ∧ h.lock = n := by
  simp [State.holders, s.mem_holds_iff]

theorem State.findHold_some {s : State} {c : ClientId} {n : LockId} {h : Hold} (e : s.findHold c n = some h) :
    h.client = c ∧ h.lock = n ∧ PoolRecord.hold h ∈ s.pool := by
  have hm := List.mem_of_find?_eq_some e
  have hp := List.find?_some e
  simp at hp
  exact ⟨hp.1, hp.2, (s.mem_holds_iff h).1 hm⟩

theorem State.findHold_eq_none_iff (s : State) (c : ClientId) (n : LockId) :
    s.findHold c n = none ↔ ∀ h ∈ s.heldList c, h.lock ≠ n := by
  simp only [State.findHold, List.find?_eq_none, s.mem_heldList_iff, s.mem_holds_iff]
  constructor
  · rintro hn h ⟨hp, hc⟩ hl
    exact hn h hp (by simp [hc, hl])
  · intro hn h hp hh
    simp at hh
    exact hn h ⟨hp, hh.1⟩ hh.2

theorem State.findHold_isSome_iff (s : State) (c : ClientId) (n : LockId) :
    (s.findHold c n).isSome = true ↔ ∃ h ∈ s.heldList c, h.lock = n := by
  rw [← not_iff_not]
  simp only [Option.not_isSome_iff_eq_none, s.findHold_eq_none_iff, not_exists, not_and]

/-- Erasing the hold that `findHold` finds erases that record. -/
theorem State.eraseP_isHoldOf {s : State} {c : ClientId} {n : LockId} {h : Hold} (e : s.findHold c n = some h) :
    s.pool.eraseP (PoolRecord.isHoldOf c n) = s.pool.erase (.hold h) := by
  have key : ∀ p : List PoolRecord,
      (p.filterMap PoolRecord.hold?).find? (fun h => h.client == c && h.lock == n) = some h →
        p.eraseP (PoolRecord.isHoldOf c n) = p.erase (.hold h) := by
    intro p
    induction p with
    | nil => intro e; simp at e
    | cons r p ih =>
      intro e
      cases r with
      | reservation c' n' =>
        simp only [List.filterMap_cons, PoolRecord.hold?] at e
        simp [PoolRecord.isHoldOf, ih e]
      | hold h' =>
        simp only [List.filterMap_cons, PoolRecord.hold?, List.find?_cons] at e
        cases hp : (h'.client == c && h'.lock == n) with
        | true =>
          rw [hp] at e
          simp at e
          subst e
          simp [PoolRecord.isHoldOf, hp]
        | false =>
          rw [hp] at e
          have hne : h' ≠ h := by
            rintro rfl
            have := List.find?_some e
            simp [hp] at this
          simp [PoolRecord.isHoldOf, hp, hne, ih e]
  exact key s.pool e

/-- A hold of the pool that is the only one of its client on its lock is the one `findHold` finds. -/
theorem State.findHold_of_nodup {s : State} {c : ClientId} {h : Hold} (hm : h ∈ s.heldList c)
    (nd : ((s.heldList c).map Hold.lock).Nodup) : s.findHold c h.lock = some h := by
  cases e : s.findHold c h.lock with
  | none => exact absurd rfl ((s.findHold_eq_none_iff c h.lock).1 e h hm)
  | some h' =>
    obtain ⟨hc, hl, hp⟩ := State.findHold_some e
    have hm' : h' ∈ s.heldList c := (s.mem_heldList_iff c h').2 ⟨hp, hc⟩
    exact congrArg some (List.inj_on_of_nodup_map nd hm' hm hl)

/-- What a change of one hold does to the pool. -/
theorem State.updateHold_eq (s : State) (c : ClientId) (n : LockId) (f : Hold → Hold) :
    s.updateHold c n f = { s with pool := changeHold c n f s.pool } := by
  simp only [State.updateHold, State.setPool, changeHold]
  congr 1
  apply List.map_congr_left
  intro r _
  cases r with
  | reservation c' n' => rfl
  | hold h =>
    by_cases hh : h.client = c ∧ h.lock = n
    · simp [hh.1, hh.2]
    · simp only [hh, if_false]
      rw [if_neg]
      simpa using hh

/-! ## Answers (R27, R36, R138, R146) -/

theorem State.offerFault_eq (s : State) (o : Origin) (r : Result) :
    s.offerFault o r =
      s.setNu o.agent
        (if (s.nu o.agent).fault = true then { s.nu o.agent with multi := true }
        else
          { s.nu o.agent with
            fault := true
            faultRecord := some { window := o.window, command := o.command, fault := r } }) := by
  unfold State.offerFault
  split <;> rfl

theorem State.offerDenial_eq (s : State) (o : Origin) (n : LockId) :
    s.offerDenial o n =
      s.setSu
        (if s.su.denialRecord = none then
          { s.su with
            flags := { s.su.flags with denial := true }
            denialRecord :=
              some { agent := o.agent, slot := o.slot, lock := n, domain := (s.lock n).config.domain } }
        else s.su) := by
  unfold State.offerDenial
  split
  · next d h => simp [h, State.setSu]
  · next h => simp [h]

/-- The answer in closed form: one client, one agent's notice state and the denial record. -/
theorem State.answer_eq (s : State) (o : Origin) (r : Result) (n : LockId) (g : BitVec 16) :
    s.answer o r n g =
      ((s.setClient o.client
          { s.client o.client with result := { result := r, slot := o.slot, lock := n, generation := g } }).setNu
          o.agent
          (if r.isFault = true then
            if (s.nu o.agent).fault = true then { s.nu o.agent with multi := true }
            else
              { s.nu o.agent with
                fault := true
                faultRecord := some { window := o.window, command := o.command, fault := r } }
          else s.nu o.agent)).setSu
        (if r = .denied ∧ s.su.denialRecord = none then
          { s.su with
            flags := { s.su.flags with denial := true }
            denialRecord :=
              some { agent := o.agent, slot := o.slot, lock := n, domain := (s.lock n).config.domain } }
        else s.su) := by
  unfold State.answer
  simp only [State.offerDenial_eq, State.offerFault_eq, State.setResult_eq]
  by_cases hf : r.isFault = true
  · by_cases hd : r = .denied
    · subst hd
      simp [hf]
      rfl
    · simp [hf, hd]
      rfl
  · have hd : r ≠ .denied := by
      rintro rfl
      exact hf (by decide)
    rw [if_neg hd, if_neg hf, if_neg hf, if_neg fun h => hd h.1]
    exact (State.setNu_self (s.setClient o.client _) o.agent).symm

/-- Everything an answer does. -/
theorem State.answer_answered (s : State) (o : Origin) (r : Result) (n : LockId) (g : BitVec 16) :
    (s.answer o r n g).Answered s o r n g := by
  rw [State.answer_eq]
  refine ⟨by simp, fun d hd => by simp [hd], ⟨fun a ha => by simp [ha], by simp⟩, rfl, ?_⟩
  rfl

/-! ## What an answer leaves alone -/

@[simp] theorem State.answer_locks (s : State) (o : Origin) (r : Result) (n : LockId) (g : BitVec 16) :
    (s.answer o r n g).locks = s.locks := by
  rw [State.answer_eq]
  rfl

@[simp] theorem State.answer_pool (s : State) (o : Origin) (r : Result) (n : LockId) (g : BitVec 16) :
    (s.answer o r n g).pool = s.pool := by
  rw [State.answer_eq]
  rfl

@[simp] theorem State.answer_windows (s : State) (o : Origin) (r : Result) (n : LockId) (g : BitVec 16) :
    (s.answer o r n g).windows = s.windows := by
  rw [State.answer_eq]
  rfl

@[simp] theorem State.answer_tb (s : State) (o : Origin) (r : Result) (n : LockId) (g : BitVec 16) :
    (s.answer o r n g).tb = s.tb := by
  rw [State.answer_eq]
  rfl

@[simp] theorem State.answer_lines (s : State) (o : Origin) (r : Result) (n : LockId) (g : BitVec 16) :
    (s.answer o r n g).lines = s.lines := by
  rw [State.answer_eq]
  rfl

@[simp] theorem State.answer_activeJob (s : State) (o : Origin) (r : Result) (n : LockId) (g : BitVec 16) :
    (s.answer o r n g).activeJob = s.activeJob := by
  rw [State.answer_eq]
  rfl

@[simp] theorem State.answer_waitingJobs (s : State) (o : Origin) (r : Result) (n : LockId) (g : BitVec 16) :
    (s.answer o r n g).waitingJobs = s.waitingJobs := by
  rw [State.answer_eq]
  rfl

@[simp] theorem State.answer_busData (s : State) (o : Origin) (r : Result) (n : LockId) (g : BitVec 16) :
    (s.answer o r n g).busData = s.busData := by
  rw [State.answer_eq]
  rfl

@[simp] theorem State.answer_pending (s : State) (o : Origin) (r : Result) (n : LockId) (g : BitVec 16) :
    (s.answer o r n g).pending = s.pending := by
  rw [State.answer_eq]
  rfl

@[simp] theorem State.answer_lock (s : State) (o : Origin) (r : Result) (n : LockId) (g : BitVec 16) (m : LockId) :
    (s.answer o r n g).lock m = s.lock m := by
  rw [State.answer_eq]
  rfl

@[simp] theorem State.answer_line (s : State) (o : Origin) (r : Result) (n : LockId) (g : BitVec 16) (b : AgentId) :
    (s.answer o r n g).line b = s.line b := by
  rw [State.answer_eq]
  rfl

@[simp] theorem State.answer_window (s : State) (o : Origin) (r : Result) (n : LockId) (g : BitVec 16) (b : AgentId) :
    (s.answer o r n g).window b = s.window b := by
  rw [State.answer_eq]
  rfl

theorem State.answer_client (s : State) (o : Origin) (r : Result) (n : LockId) (g : BitVec 16) (d : ClientId) :
    (s.answer o r n g).client d =
      if d = o.client then
        { s.client d with result := { result := r, slot := o.slot, lock := n, generation := g } }
      else s.client d := by
  by_cases h : d = o.client
  · subst h
    rw [if_pos rfl]
    exact (s.answer_answered o r n g).1
  · rw [if_neg h]
    exact (s.answer_answered o r n g).2.1 d h

/-- An outcome that is no fault leaves every notice state and the SU alone. -/
theorem State.answer_outcome (s : State) (o : Origin) {r : Result} (n : LockId) (g : BitVec 16)
    (h : r.isFault = false) :
    s.answer o r n g =
      s.setClient o.client
        { s.client o.client with result := { result := r, slot := o.slot, lock := n, generation := g } } := by
  have hd : r ≠ .denied := by
    rintro rfl
    exact absurd h (by decide)
  rw [State.answer_eq, if_neg (by simp [h]), if_neg fun e => hd e.1]
  exact State.setNu_self (s.setClient o.client _) o.agent

/-! ## Notices (R88, R101) -/

/-- The WARNED or REVOKED notice about a hold. -/
def Hold.notice (h : Hold) (revoked : Bool) : Notice :=
  if revoked then .revoked (slotOf h.client) h.lock h.generation
  else .warned (slotOf h.client) h.lock h.generation

/-- Everything the passing of a WARNED or REVOKED notice does. -/
theorem State.passUnreserved_noticePassed (s : State) (h : Hold) (revoked : Bool) :
    (s.passUnreserved h.client (h.notice revoked)).NoticePassed s h revoked := by
  unfold State.passUnreserved State.NoticePassed
  by_cases hd : (s.client h.client).state = .detaching
  · simp [hd]
  · by_cases hs : (s.nu (agentOf h.client)).queue.length + (s.nu (agentOf h.client)).reserved < 16
    · have hf : s.slotFree (agentOf h.client) = true := decide_eq_true hs
      refine ⟨fun b hb => by simp [hd, hf, hb], by simp [hd, hf, hs, Hold.notice], ?_⟩
      rw [if_neg hd, if_pos hf]
      rfl
    · have hf : s.slotFree (agentOf h.client) = false := decide_eq_false hs
      cases revoked <;>
        refine ⟨fun b hb => by simp [hd, hf, hb, State.loseNotice, Hold.notice],
          by simp [hd, hf, hs, State.loseNotice, Hold.notice], ?_⟩ <;>
        simp only [hd, hf, if_false, Bool.false_eq_true, State.loseNotice, Hold.notice] <;>
        rfl

/-! ## Rank (R15) -/

/-- The rank key of a lock (R15): the smaller, the higher its rank. -/
def State.rankKey (s : State) (n : LockId) : Nat :=
  (s.lock n).config.ceiling.val * 64 + (63 - n.val)

theorem State.ranksAbove_iff (s : State) (a b : LockId) : s.ranksAbove a b = true ↔ s.rankKey a < s.rankKey b := by
  have ha := a.isLt
  have hb := b.isLt
  simp only [State.ranksAbove, State.rankKey, Bool.or_eq_true, decide_eq_true_eq, Bool.and_eq_true, beq_iff_eq,
    Fin.lt_def, Fin.ext_iff]
  omega

theorem State.rankKey_injective (s : State) : Function.Injective s.rankKey := by
  intro a b h
  have ha := a.isLt
  have hb := b.isLt
  simp only [State.rankKey] at h
  exact Fin.ext (by omega)

theorem State.ranksAbove_trans (s : State) {a b c : LockId} (h1 : s.ranksAbove a b = true)
    (h2 : s.ranksAbove b c = true) : s.ranksAbove a c = true := by
  rw [State.ranksAbove_iff] at *
  omega

theorem State.ranksAbove_irrefl (s : State) (a : LockId) : s.ranksAbove a a = false := by
  rw [← Bool.not_eq_true, State.ranksAbove_iff]
  omega

/-! ## The revoked set -/

/-- The revoked-set count is the number of locks in the revoked set. -/
theorem Client.revokedCount_eq (r : Client) :
    r.revokedCount = ((List.finRange 64).filter fun n => r.revoked.get n).length := by
  have e : r.revoked.toList = (List.finRange 64).map r.revoked.get := by
    apply List.ext_getElem <;> simp [Vector.get_eq_getElem]
  rw [Client.revokedCount, e, List.countP_map, List.countP_eq_length_filter]
  rfl

end Sys2Proof.Machine
end

