-- ==== Sys2Proof/Laws/LockEngine.lean ====
section
/-! SUPPORT. One lemma for each procedure of the Lock Engine: eligibility, the removal of a hold, the endings
of a wait, insertion in a queue, and what grant evaluation and the DEAD flush leave alone. -/

namespace Sys2Proof.Machine

/-! ## Eligibility (R65) -/

theorem State.eligible_iff (s : State) (n : LockId) (c : ClientId) :
    s.eligible n c = true ↔
      ∃ w, (s.client c).wait = some w ∧ w.priority.val < s.su.gate.val ∧ (s.client c).state ≠ .detaching
        ∧ ¬ ((s.lock n).state = .orphaned ∧ w.mode = .shared) := by
  unfold State.eligible
  cases e : (s.client c).wait with
  | none => simp
  | some w =>
    simp only [Option.some.injEq, exists_eq_left', State.gated, Bool.and_eq_true, Bool.not_eq_true',
      decide_eq_false_iff_not, not_le, bne_iff_ne, Bool.and_eq_false_iff, beq_eq_false_iff_ne]
    tauto

theorem State.waitsShared_iff (s : State) (c : ClientId) :
    s.waitsShared c = true ↔ s.waitMode c = .shared := by
  unfold State.waitsShared State.waitMode
  cases (s.client c).wait <;> simp

theorem State.mem_eligibleWaiters (s : State) (n : LockId) (c : ClientId) :
    c ∈ s.eligibleWaiters n ↔ c ∈ (s.lock n).queue ∧ s.eligible n c = true := by
  simp [State.eligibleWaiters]

/-- Grant evaluation chooses, in queue order, among the eligible waiters. -/
theorem State.waitersToGrant_sublist (s : State) (n : LockId) :
    (s.waitersToGrant n).Sublist (s.eligibleWaiters n) := by
  unfold State.waitersToGrant
  cases (s.lock n).state <;> simp only
  case free =>
    split
    · exact List.nil_sublist _
    · next c r e =>
      split
      · exact List.takeWhile_sublist _
      · rw [e]
        simp
  case orphaned => exact (List.take_sublist _ _).trans List.filter_sublist
  case shared => exact List.takeWhile_sublist _
  all_goals exact List.nil_sublist _

theorem State.waitersToGrant_eligible (s : State) (n : LockId) {c : ClientId} (h : c ∈ s.waitersToGrant n) :
    c ∈ (s.lock n).queue ∧ s.eligible n c = true :=
  (s.mem_eligibleWaiters n c).1 ((s.waitersToGrant_sublist n).subset h)

theorem State.waitersToGrant_free_nil {s : State} {n : LockId} (h : (s.lock n).state = .free)
    (e : s.eligibleWaiters n = []) : s.waitersToGrant n = [] := by
  simp only [State.waitersToGrant, h, e]

/-- A FREE lock grants its first eligible waiter, with the SHARED ones that follow it when it is SHARED. -/
theorem State.waitersToGrant_free_cons {s : State} {n : LockId} {c : ClientId} {r : List ClientId}
    (h : (s.lock n).state = .free) (e : s.eligibleWaiters n = c :: r) :
    s.waitersToGrant n = if s.waitsShared c then (c :: r).takeWhile s.waitsShared else [c] := by
  simp only [State.waitersToGrant, h, e]

theorem State.waitersToGrant_shared {s : State} {n : LockId} (h : (s.lock n).state = .shared) :
    s.waitersToGrant n = (s.eligibleWaiters n).takeWhile s.waitsShared := by
  simp only [State.waitersToGrant, h]

theorem State.waitersToGrant_orphaned {s : State} {n : LockId} (h : (s.lock n).state = .orphaned) :
    s.waitersToGrant n = (s.eligibleWaiters n).take 1 := by
  have e : (s.eligibleWaiters n).filter (fun c => !s.waitsShared c) = s.eligibleWaiters n := by
    rw [List.filter_eq_self]
    intro c hc
    obtain ⟨w, hw, -, -, hm⟩ := (s.eligible_iff n c).1 ((s.mem_eligibleWaiters n c).1 hc).2
    simp only [h, true_and] at hm
    simp [State.waitsShared, hw, hm]
  simp only [State.waitersToGrant, h, e]

theorem State.waitersToGrant_closed {s : State} {n : LockId}
    (h : (s.lock n).state = .held ∨ (s.lock n).state = .suspect ∨ (s.lock n).state = .offline
      ∨ (s.lock n).state = .dead) : s.waitersToGrant n = [] := by
  rcases h with h | h | h | h <;> simp only [State.waitersToGrant, h]

/-! ## The removal of a hold (R7, R10) -/

@[simp] theorem filterMap_hold?_reservation (c : ClientId) (n : LockId) (p : List PoolRecord) :
    (PoolRecord.reservation c n :: p).filterMap PoolRecord.hold? = p.filterMap PoolRecord.hold? := rfl

@[simp] theorem filterMap_hold?_hold (h : Hold) (p : List PoolRecord) :
    (PoolRecord.hold h :: p).filterMap PoolRecord.hold? = h :: p.filterMap PoolRecord.hold? := rfl

theorem holds_erase (p : List PoolRecord) (h : Hold) :
    (p.erase (.hold h)).filterMap PoolRecord.hold? = (p.filterMap PoolRecord.hold?).erase h := by
  induction p with
  | nil => rfl
  | cons r p ih =>
    cases r with
    | reservation c n => simp [ih]
    | hold h' =>
      by_cases e : h' = h
      · subst e
        simp
      · simp [e, ih]

theorem holds_erase_reservation (p : List PoolRecord) (c : ClientId) (n : LockId) :
    (p.erase (.reservation c n)).filterMap PoolRecord.hold? = p.filterMap PoolRecord.hold? := by
  induction p with
  | nil => rfl
  | cons r p ih =>
    by_cases e : r = .reservation c n
    · subst e
      simp
    · cases r <;> simp_all

theorem filter_erase_of_pos {α : Type} [DecidableEq α] (P : α → Bool) (x : α) (hx : P x = true) (l : List α) :
    (l.erase x).filter P = (l.filter P).erase x := by
  induction l with
  | nil => rfl
  | cons y l ih =>
    by_cases e : y = x
    · subst e
      simp [hx]
    · cases hy : P y <;> simp [hy, e, ih]

theorem holders_erase (s : State) (h : Hold) :
    (s.setPool (s.pool.erase (.hold h))).holders h.lock = (s.holders h.lock).erase h := by
  unfold State.holders
  rw [State.setPool_holds, holds_erase]
  exact filter_erase_of_pos _ h (by simp) _

/-- Everything the removal of a hold does. -/
theorem State.removeHold_holdRemoved {s : State} {c : ClientId} {n : LockId} {h : Hold} (alone : LockState)
    (e : s.findHold c n = some h) : (s.removeHold h alone).HoldRemoved s h alone := by
  obtain ⟨hc, hl, hp⟩ := State.findHold_some e
  subst hc hl
  have hm : h ∈ s.holders h.lock := (s.mem_holders_iff _ h).2 ⟨hp, rfl⟩
  have hlen : ((s.holders h.lock).erase h).isEmpty = decide (¬ 2 ≤ (s.holders h.lock).length) := by
    have := List.length_pos_of_mem hm
    rw [Bool.eq_iff_iff, List.isEmpty_iff, ← List.length_eq_zero_iff, List.length_erase_of_mem hm]
    simp
    omega
  have hs : stateAfterRemoval alone h.mode (!((s.holders h.lock).erase h).isEmpty) =
      if h.mode = .exclusive then alone else if 2 ≤ (s.holders h.lock).length then .shared else .free := by
    rw [hlen]
    cases h.mode <;> simp [stateAfterRemoval, Nat.lt_iff_add_one_le]
  unfold State.removeHold State.HoldRemoved
  simp only [State.freeHold_eq, State.eraseP_isHoldOf e, holders_erase, hs]
  exact ⟨rfl, by simp, fun m hm => by simp [hm], rfl⟩

/-! ## The endings of a wait (R63) -/

theorem State.endWaitReported_of_detaching {s : State} {c : ClientId} (n : LockId) (e : WaitEnd) (r : WaitEndReason)
    (hd : (s.client c).state = .detaching) :
    s.endWaitReported c n e r = ((s.endWait c n).setLastWaitEnd c e).freeSlot (agentOf c) := by
  unfold State.endWaitReported
  rw [if_pos]
  simp [State.endWait, State.leaveQueue, hd]

theorem State.endWaitReported_of_not_detaching {s : State} {c : ClientId} (n : LockId) (e : WaitEnd)
    (r : WaitEndReason) (hd : (s.client c).state ≠ .detaching) :
    s.endWaitReported c n e r =
      (((s.endWait c n).setLastWaitEnd c e).setClientState c .ready).appendReserved (agentOf c)
        (.waitEnded (slotOf c) n r) := by
  unfold State.endWaitReported
  rw [if_neg]
  simp [State.endWait, State.leaveQueue, hd]

/-- Everything a reported end of a wait does to a DETACHING client (R13, R84). -/
theorem State.endWaitReported_silent {s : State} {c : ClientId} (n : LockId) (e : WaitEnd) (r : WaitEndReason)
    (hd : (s.client c).state = .detaching) : (s.endWaitReported c n e r).WaitEnded s c n .detaching e none := by
  rw [State.endWaitReported_of_detaching n e r hd]
  unfold State.endWait State.leaveQueue State.WaitEnded
  simp only [State.freeReservation_eq, eraseP_isReservationOf, State.setWait_eq, State.setLastWaitEnd_eq,
    State.freeSlot_eq]
  refine ⟨by simp [hd], fun d h => by simp [h], by simp, fun m h => by simp [h], rfl, by simp,
    fun a h => by simp [h], rfl⟩

/-- Everything a reported end of a wait does to any other client (R13, R84). -/
theorem State.endWaitReported_notified {s : State} {c : ClientId} (n : LockId) (e : WaitEnd) (r : WaitEndReason)
    (hd : (s.client c).state ≠ .detaching) :
    (s.endWaitReported c n e r).WaitEnded s c n .ready e (some (.waitEnded (slotOf c) n r)) := by
  rw [State.endWaitReported_of_not_detaching n e r hd]
  unfold State.endWait State.leaveQueue State.appendReserved State.WaitEnded
  simp only [State.freeReservation_eq, eraseP_isReservationOf, State.setWait_eq, State.setLastWaitEnd_eq,
    State.freeSlot_eq, State.setClientState_eq, State.appendNotice_eq]
  refine ⟨by simp, fun d h => by simp [h], by simp, fun m h => by simp [h], rfl, by simp,
    fun a h => by simp [h], rfl⟩

/-- Everything a silent end of a wait does, by CANCEL or by a reclaim step (R54, R118). -/
theorem State.cancelWait_waitEnded (s : State) (c : ClientId) (n : LockId) :
    (s.cancelWait c n).WaitEnded s c n (s.client c).state .cancelled none := by
  unfold State.cancelWait State.endWait State.leaveQueue State.WaitEnded
  simp only [State.freeReservation_eq, eraseP_isReservationOf, State.setWait_eq, State.setLastWaitEnd_eq,
    State.freeSlot_eq]
  refine ⟨by simp, fun d h => by simp [h], by simp, fun m h => by simp [h], rfl, by simp,
    fun a h => by simp [h], rfl⟩

/-! ## Insertion in a queue (R60) -/

/-- A new waiter stands immediately after the last entry whose priority is numerically smaller than or
equal to its own, or at the head when there is none. -/
theorem insertWaiter_split (priority : ClientId → Priority) (c : ClientId) (p : Priority) (q : List ClientId) :
    ∃ ahead behind, q = ahead ++ behind ∧ insertWaiter priority c p q = ahead ++ c :: behind
      ∧ (∀ d, ahead.getLast? = some d → priority d ≤ p) ∧ ∀ d ∈ behind, p < priority d := by
  induction q with
  | nil => exact ⟨[], [], rfl, rfl, by simp, by simp⟩
  | cons d q ih =>
    unfold insertWaiter
    by_cases h : (d :: q).any (fun e => decide (priority e ≤ p)) = true
    · rw [if_pos h]
      obtain ⟨ahead, behind, hq, hi, hl, hb⟩ := ih
      refine ⟨d :: ahead, behind, by simp [hq], by simp [hi], ?_, hb⟩
      intro e he
      rw [List.getLast?_cons] at he
      cases hg : ahead.getLast? with
      | some x =>
        rw [hg] at he
        simp at he
        exact he ▸ hl x hg
      | none =>
        rw [hg] at he
        simp at he
        subst he
        have : ahead = [] := List.getLast?_eq_none_iff.1 hg
        subst this
        simp only [List.any_cons, Bool.or_eq_true, decide_eq_true_eq, List.any_eq_true] at h
        rcases h with h | ⟨x, hx, hp⟩
        · exact h
        · exact absurd (hb x (by simpa [hq] using hx)) (not_lt.2 hp)
    · rw [if_neg h]
      refine ⟨[], d :: q, rfl, rfl, by simp, ?_⟩
      intro e he
      simp only [List.any_eq_true, decide_eq_true_eq, not_exists, not_and, not_le] at h
      exact h e he

/-! ## What one grant, grant evaluation and the flush leave alone -/

/-- The grant of a waiter with a wait record, in closed form. -/
theorem State.grantWaiter_eq {s : State} {n : LockId} {c : ClientId} {w : WaitRecord}
    (hw : (s.client c).wait = some w) :
    s.grantWaiter n c =
      let l := s.lock n
      let a := agentOf c
      { s with
        locks :=
          s.locks.set n
            { l with
              state := stateAfterGrant l.state w.mode
              queue := l.queue.erase c
              generation := l.generation + 1
              cleanPending := l.state == .orphaned }
        pool := s.pool.erase (.reservation c n) ++ [.hold (s.newHold c n w.mode (l.generation + 1))]
        clients :=
          s.clients.set c
            { s.client c with
              state := .ready
              wait := none
              lastWaitEnd := .granted
              revoked := (s.client c).revoked.set n false }
        notices :=
          s.notices.set a
            { s.nu a with
              queue :=
                (s.nu a).queue
                  ++ [.granted (slotOf c) n w.mode (l.state == .orphaned) (l.generation + 1)]
              reserved := (s.nu a).reserved - 1 } } := by
  unfold State.grantWaiter
  rw [hw]
  simp only [State.leaveQueue, State.createHold, State.appendReserved, State.freeReservation_eq,
    eraseP_isReservationOf, State.addHold_eq]
  simp
  simp only [State.setLock, State.setClient, State.setPool, State.setNu, Vector.set_set]
  rfl

/-- The parts of the state that grants leave alone, and what they keep of the parts they touch. -/
structure State.GrantFrame (t s : State) (n : LockId) : Prop where
  windows : t.windows = s.windows
  tb : t.tb = s.tb
  lines : t.lines = s.lines
  activeJob : t.activeJob = s.activeJob
  waitingJobs : t.waitingJobs = s.waitingJobs
  su : t.su = s.su
  busData : t.busData = s.busData
  pending : t.pending = s.pending
  lock : ∀ m, m ≠ n → t.lock m = s.lock m
  config : (t.lock n).config = (s.lock n).config
  result : ∀ c, (t.client c).result = (s.client c).result
  waitLimit : ∀ c, (t.client c).waitLimit = (s.client c).waitLimit
  detaching : ∀ c, (s.client c).state = .detaching → t.client c = s.client c

theorem State.GrantFrame.refl (s : State) (n : LockId) : s.GrantFrame s n := by
  constructor <;> simp

theorem State.GrantFrame.trans {r s t : State} {n : LockId} (h1 : s.GrantFrame r n) (h2 : t.GrantFrame s n) :
    t.GrantFrame r n := by
  constructor
  case lock => exact fun m hm => (h2.lock m hm).trans (h1.lock m hm)
  case result => exact fun c => (h2.result c).trans (h1.result c)
  case waitLimit => exact fun c => (h2.waitLimit c).trans (h1.waitLimit c)
  case detaching => exact fun c hc => (h2.detaching c (by rw [h1.detaching c hc, hc])).trans (h1.detaching c hc)
  all_goals simp [h1.windows, h2.windows, h1.tb, h2.tb, h1.lines, h2.lines, h1.activeJob, h2.activeJob,
    h1.waitingJobs, h2.waitingJobs, h1.su, h2.su, h1.busData, h2.busData, h1.pending, h2.pending, h1.config,
    h2.config]

/-- A grant of a client that is not DETACHING keeps the frame. -/
theorem State.grantWaiter_frame (s : State) (n : LockId) (c : ClientId) (hc : (s.client c).state ≠ .detaching) :
    (s.grantWaiter n c).GrantFrame s n := by
  cases hw : (s.client c).wait with
  | none =>
    have e : s.grantWaiter n c = s := by
      unfold State.grantWaiter
      rw [hw]
    rw [e]
    exact State.GrantFrame.refl s n
  | some w =>
    rw [State.grantWaiter_eq hw]
    have hcl : ∀ d (r : Client), (Vector.set s.clients c r).get d = if d = c then r else s.clients.get d :=
      fun d r => vector_get_set _ _ _ _
    have hlk : ∀ m (r : LockRecord), (Vector.set s.locks n r).get m = if m = n then r else s.locks.get m :=
      fun m r => vector_get_set _ _ _ _
    constructor <;> simp only [State.lock, State.client] at * <;> try rfl
    · intro m hm
      rw [hlk, if_neg hm]
    · rw [hlk, if_pos rfl]
    · intro d
      rw [hcl]
      split <;> simp_all
    · intro d
      rw [hcl]
      split <;> simp_all
    · intro d hd
      rw [hcl, if_neg]
      rintro rfl
      exact hc hd

/-- A grant leaves the DETACHING clients DETACHING, and makes no client DETACHING. -/
theorem State.grantWaiter_detaching_iff (s : State) (n : LockId) (c d : ClientId)
    (hc : (s.client c).state ≠ .detaching) :
    ((s.grantWaiter n c).client d).state = .detaching ↔ (s.client d).state = .detaching := by
  constructor
  · intro h
    by_contra hd
    cases hw : (s.client c).wait with
    | none =>
      unfold State.grantWaiter at h
      rw [hw] at h
      exact hd h
    | some w =>
      rw [State.grantWaiter_eq hw] at h
      simp only [State.client] at h hd
      rw [vector_get_set] at h
      split at h
      · simp at h
      · exact hd h
  · intro h
    rw [(s.grantWaiter_frame n c hc).detaching d h, h]

theorem State.foldl_grantWaiter_frame (n : LockId) (cs : List ClientId) (s : State)
    (h : ∀ c ∈ cs, (s.client c).state ≠ .detaching) : (cs.foldl (State.grantWaiter n) s).GrantFrame s n := by
  induction cs generalizing s with
  | nil => exact State.GrantFrame.refl s n
  | cons c cs ih =>
    have hc := h c (by simp)
    refine (s.grantWaiter_frame n c hc).trans (ih _ ?_)
    intro d hd
    rw [Ne, s.grantWaiter_detaching_iff n c d hc]
    exact h d (by simp [hd])

/-- Everything grant evaluation leaves alone. -/
theorem State.grantEval_frame (s : State) (n : LockId) : (s.grantEval n).GrantFrame s n := by
  refine State.foldl_grantWaiter_frame n _ s fun c hc => ?_
  obtain ⟨w, -, -, hd, -⟩ := (s.eligible_iff n c).1 (s.waitersToGrant_eligible n hc).2
  exact hd

/-- Grant evaluation that chooses nobody does nothing. -/
theorem State.grantEval_of_settled {s : State} {n : LockId} (h : s.Settled n) : s.grantEval n = s := by
  unfold State.Settled at h
  simp [State.grantEval, h]

end Sys2Proof.Machine
end

