-- ==== Sys2Proof/Laws/ReclaimEngine.lean ====
section
/-! SUPPORT. One lemma for each procedure of the Reclaim Engine: attaching, the set of a detach request, its
evaluations and its placement, and the end of a job. -/

namespace Sys2Proof.Machine

/-! ## Slot sets -/

theorem firstPosition_atLowest (set : SlotSet) : AtLowest set (firstPosition set) := by
  unfold firstPosition AtLowest
  constructor
  · intro h
    have : allSlots.find? (fun sl => set.get sl) = none := by simp [List.find?_eq_none, h]
    rw [this]
  · intro sl hsl hlow
    have : allSlots.find? (fun sl => set.get sl) = some sl := by
      have h0 := hlow 0
      have h1 := hlow 1
      have h2 := hlow 2
      simp only [allSlots]
      fin_cases sl <;> simp_all [List.find?]
    rw [this]

theorem firstPosition_final_iff (set : SlotSet) : firstPosition set = .final ↔ ∀ sl, set.get sl = false := by
  unfold firstPosition
  cases e : allSlots.find? (fun sl => set.get sl) with
  | none =>
    rw [List.find?_eq_none] at e
    simpa using e
  | some sl =>
    have h := List.find?_some e
    simp only [reduceCtorEq, false_iff, not_forall]
    exact ⟨sl, by simp [h]⟩

@[simp] theorem everySlot_get (sl : Slot) : everySlot.get sl = true := by
  simp [everySlot, Vector.get_eq_getElem]

theorem onlySlot_get (sl sm : Slot) : (onlySlot sl).get sm = decide (sm = sl) := by
  rw [onlySlot, vector_get_set]
  by_cases h : sm = sl <;> simp [h, Vector.get_eq_getElem]

@[simp] theorem slotUnion_get (x y : SlotSet) (sl : Slot) : (slotUnion x y).get sl = (x.get sl || y.get sl) := by
  simp [slotUnion]

/-! ## States of several slots -/

/-- The clients of the slots take the state, and nothing else changes. -/
theorem State.setSlotStates_spec (s : State) (a : AgentId) (slots : List Slot) (st : ClientState) :
    (∀ c, (s.setSlotStates a slots st).client c =
        if agentOf c = a ∧ slotOf c ∈ slots then { s.client c with state := st } else s.client c)
      ∧ s.setSlotStates a slots st = { s with clients := (s.setSlotStates a slots st).clients } := by
  induction slots generalizing s with
  | nil => exact ⟨fun c => by simp [State.setSlotStates], rfl⟩
  | cons sl slots ih =>
    have e : s.setSlotStates a (sl :: slots) st =
      (s.setClientState (clientOf a sl) st).setSlotStates a slots st := rfl
    obtain ⟨hc, hs⟩ := ih (s.setClientState (clientOf a sl) st)
    rw [e]
    refine ⟨fun c => ?_, ?_⟩
    · rw [hc c]
      by_cases h1 : c = clientOf a sl
      · subst h1
        by_cases h2 : sl ∈ slots <;> simp [h2]
      · have h3 : agentOf c = a → slotOf c ≠ sl := by
          rintro rfl rfl
          exact h1 (clientOf_agentOf_slotOf c).symm
        by_cases h4 : agentOf c = a
        · have h5 := h3 h4
          by_cases h2 : slotOf c ∈ slots <;> simp [h1, h2, h4, h5]
        · simp [h1, h4]
    · rw [hs]
      rfl

/-- Everything an attach does. -/
theorem State.attachAgent_attached (s : State) (a : AgentId) : (s.attachAgent a).Attached s a := by
  obtain ⟨hc, hs⟩ := (s.setAttach a .attached).setSlotStates_spec a allSlots .ready
  have e : s.attachAgent a = (s.setAttach a .attached).setSlotStates a allSlots .ready := rfl
  have hl : (s.attachAgent a).lines = (s.setAttach a .attached).lines := by
    rw [e, hs]
  have hline : ∀ b, (s.attachAgent a).line b = (s.setAttach a .attached).line b := by
    intro b
    simp only [State.line, hl]
  refine ⟨by simp [hline], fun b hb => by simp [hline, hb], fun c => ?_, ?_⟩
  · rw [e, hc c]
    simp
  · rw [hl, e, hs]
    rfl

/-! ## Detach requests -/

theorem State.requestSet_iff (s : State) (a : AgentId) (named : SlotSet) (sl : Slot) :
    (s.requestSet a named).get sl = true ↔
      named.get sl = true
        ∧ ((s.client (clientOf a sl)).state = .ready ∨ (s.client (clientOf a sl)).state = .waiting) := by
  simp [State.requestSet]

/-- The evaluations of a request, client by client, are those of the locks its waits name: grant evaluation
leaves the wait of a DETACHING client alone. -/
theorem State.foldl_evalWaitLock (s : State) (cs : List ClientId) (h : ∀ c ∈ cs, (s.client c).state = .detaching) :
    cs.foldl State.evalWaitLock s =
      (cs.filterMap fun c => (s.client c).wait.map WaitRecord.lock).foldl State.grantEval s := by
  induction cs generalizing s with
  | nil => rfl
  | cons c cs ih =>
    have hc := h c (by simp)
    rw [List.foldl_cons]
    cases hw : (s.client c).wait with
    | none =>
      have e : s.evalWaitLock c = s := by simp [State.evalWaitLock, hw]
      rw [e, ih s fun d hd => h d (by simp [hd])]
      simp [hw]
    | some w =>
      have e : s.evalWaitLock c = s.grantEval w.lock := by simp [State.evalWaitLock, hw]
      have hfr := s.grantEval_frame w.lock
      have hcl : ∀ d ∈ cs, (s.grantEval w.lock).client d = s.client d :=
        fun d hd => hfr.detaching d (h d (by simp [hd]))
      rw [e, ih _ fun d hd => by rw [hcl d hd]; exact h d (by simp [hd])]
      simp only [List.filterMap_cons, hw, Option.map_some, List.foldl_cons]
      congr 1
      apply List.filterMap_congr
      intro d hd
      rw [hcl d hd]

/-- Everything the placement of a request does. -/
theorem State.placeRequest_placed (s : State) (a : AgentId) (set : SlotSet) (scope : Scope) :
    (s.placeRequest a set scope).Placed s a set scope := by
  unfold State.placeRequest State.Placed
  by_cases hw : ∃ j ∈ s.waitingJobs, j.agent = a
  · have hb : (s.waitingJobs.any fun j => j.agent == a) = true := by simpa using hw
    simp only [hb, if_true]
    refine ⟨rfl, ?_⟩
    rw [if_pos hw]
    refine ⟨rfl, ?_⟩
    apply List.map_congr_left
    intro j _
    cases scope <;> cases hj : j.scope <;> simp [Job.merge, hj]
  · have hb : (s.waitingJobs.any fun j => j.agent == a) = false := by
      rw [← Bool.not_eq_true]
      simpa using hw
    rw [if_neg hw, hb]
    by_cases he : s.activeJob = none ∧ s.waitingJobs = []
    · have hb' : (s.activeJob.isNone && s.waitingJobs.isEmpty) = true := by simp [he.1, he.2]
      rw [if_pos he]
      simp only [Bool.false_eq_true, if_false, hb', if_true]
      exact ⟨rfl, he.2, _, firstPosition_atLowest set, rfl⟩
    · have hb' : (s.activeJob.isNone && s.waitingJobs.isEmpty) = false := by
        rw [← Bool.not_eq_true]
        simpa using he
      rw [if_neg he]
      simp only [Bool.false_eq_true, if_false, hb']
      exact ⟨rfl, rfl, rfl⟩

/-- The clients and the agent that a detach request makes DETACHING. -/
theorem State.madeDetaching (s : State) (a : AgentId) (set : SlotSet) (scope : Scope) :
    (if scope = .agent then
        (s.setSlotStates a (allSlots.filter fun sl => set.get sl) .detaching).setAttach a .detaching
      else s.setSlotStates a (allSlots.filter fun sl => set.get sl) .detaching).MadeDetaching s a set scope := by
  obtain ⟨hc, hs⟩ := s.setSlotStates_spec a (allSlots.filter fun sl => set.get sl) .detaching
  have hl : ∀ b, (s.setSlotStates a (allSlots.filter fun sl => set.get sl) .detaching).line b = s.line b := by
    intro b
    rw [hs]
    rfl
  cases scope with
  | client =>
    rw [if_neg (by decide)]
    refine ⟨fun sl => by simp [hc], fun d hd => by simp [hc, hd], by simp [hl], fun b _ => hl b, ?_⟩
    rw [hs]
  | agent =>
    rw [if_pos rfl]
    refine ⟨fun sl => by simp [hc], fun d hd => by simp [hc, hd], by simp [hl], fun b hb => by simp [hl, hb], ?_⟩
    rw [hs]
    rfl

/-- Everything a detach request does. -/
theorem State.detachRequest_requested (s : State) (a : AgentId) (named : SlotSet) (scope : Scope) :
    (s.detachRequest a named scope).Requested s a (fun sl => named.get sl) scope := by
  have hu := s.madeDetaching a (s.requestSet a named) scope
  refine ⟨s.requestSet a named, _, s.requestSet_iff a named, hu, ?_⟩
  have hplace := fun v : State => v.placeRequest_placed a (s.requestSet a named) scope
  convert hplace _ using 1
  have hd : ∀ sl ∈ allSlots.filter (fun sl => (s.requestSet a named).get sl),
      (s.requestSet a named).get sl = true := by
    intro sl hsl
    exact (List.mem_filter.1 hsl).2
  have e := State.foldl_evalWaitLock
    (if scope = .agent then
        (s.setSlotStates a (allSlots.filter fun sl => (s.requestSet a named).get sl) .detaching).setAttach a .detaching
      else s.setSlotStates a (allSlots.filter fun sl => (s.requestSet a named).get sl) .detaching)
    ((allSlots.filter fun sl => (s.requestSet a named).get sl).map (clientOf a)) (by
      intro c hc
      obtain ⟨sl, hsl, rfl⟩ := List.mem_map.1 hc
      rw [hu.1 sl, if_pos (hd sl hsl)])
  rw [List.foldl_map] at e
  refine congrArg (fun v : State => v.placeRequest a (s.requestSet a named) scope) (e.trans ?_)
  rw [State.waitLocks, List.filterMap_map]
  congr 1
  apply List.filterMap_congr
  intro sl hsl
  simp only [Function.comp]
  rw [hu.1 sl, if_pos (hd sl hsl)]

/-! ## The end of a job (R123) -/

/-- Everything the end of a job does. -/
theorem State.endJob_jobEnded (s : State) : s.endJob.JobEnded s := by
  unfold State.endJob State.activateNext State.JobEnded
  cases h : s.waitingJobs with
  | nil => simp [h, State.setActiveJob, State.setSu]
  | cons j js =>
    simp only [State.raise_eq, State.setSu_waitingJobs, h]
    exact ⟨rfl, rfl, rfl, _, firstPosition_atLowest j.set, rfl⟩

end Sys2Proof.Machine
end

