-- ==== Sys2Proof/Tests/Slice0.lean ====
section
/-! SUPPORT. Tests of single commands on small states, their expected values taken from the worked sequences
of spec/12 and the examples and tables of spec/11; smoke tests of WellFormed; command words decoded;
and one witness for each statement that has hypotheses. -/

namespace Sys2Proof.Tests

open Sys2Proof Sys2Proof.Machine

/- One thread for the many kernel evaluations below: a thread for each takes more memory than it saves time. -/
set_option Elab.async false

/-! ## Small states -/

/-- The state a command leaves. -/
def after (i : Instr) (s : State) : State :=
  match exec i s with
  | .next t => t
  | .fault _ => s
  | .refused _ => s

/-- A lock configuration: ceiling 15, domain 0, renewable, as given otherwise. -/
def cfg (sharedOk : Bool) (budget : BitVec 16) (action : Action) (grace : BitVec 16) : LockConfig where
  ceiling := 15
  domain := 0
  sharedOk := sharedOk
  renewable := true
  budget := budget
  action := action
  grace := grace

/-- The state with lock `n` in service, FREE with an empty queue. -/
def withLock (n : LockId) (c : LockConfig) (g : BitVec 16) (s : State) : State :=
  s.setLock n { state := .free, config := c, queue := [], generation := g, cleanPending := false }

/-- A hold, not warned. -/
def holdOf (c : ClientId) (n : LockId) (m : Mode) (g : BitVec 16) (countdown : Countdown) (phase : Phase) : Hold where
  client := c
  lock := n
  mode := m
  generation := g
  countdown := countdown
  phase := phase
  warned := false

/-- The state with a hold added, its lock in the state given. -/
def withHold (h : Hold) (st : LockState) (s : State) : State :=
  (s.addHold h).setLock h.lock { s.lock h.lock with state := st, cleanPending := st == .suspect }

/-- The state with a waiter at the end of the queue of lock `n`. -/
def withWaiter (c : ClientId) (n : LockId) (m : Mode) (p : Priority) (countdown : Countdown) (s : State) : State :=
  let s := (s.addReservation c n).reserveSlot (agentOf c)
  let s := s.setLock n { s.lock n with queue := (s.lock n).queue ++ [c] }
  s.setClient c
    { s.client c with
      state := .waiting
      wait := some { lock := n, mode := m, priority := p, countdown := countdown } }

/-- spec/12.1: lock 14 HELD by client 2 with generation 101. -/
def chainHeld : State :=
  withHold (holdOf 2 14 .exclusive 101 none .budget) .held (withLock 14 (cfg false 0 .warn 0) 101 State.reset)

/-- spec/12.1: clients 17, 9 and 26 wait on lock 14, held by client 2. -/
def chain : State :=
  withWaiter 26 14 .exclusive 7 none (withWaiter 9 14 .exclusive 7 none (withWaiter 17 14 .exclusive 3 none chainHeld))

/-- spec/12.2: lock 30 HELD by client 5 with its countdown due; 12 and 20 wait. -/
def revokeDue : State :=
  withWaiter 20 30 .shared 6 none
    (withWaiter 12 30 .exclusive 4 none
      (withHold (holdOf 5 30 .exclusive 56 (some 0) .budget) .held (withLock 30 (cfg true 3 .revoke 0) 56 State.reset)))

/-- spec/12.2: lock 30 SUSPECT, held by client 12; client 20 waits and client 5 has a revoked entry. -/
def suspect : State :=
  withWaiter 20 30 .shared 6 none
    (withHold (holdOf 12 30 .exclusive 57 (some 3) .budget) .suspect
      ((withLock 30 (cfg true 3 .revoke 0) 57 State.reset).setRevoked 5 30 true))

/-- spec/12.2: lock 30 DEAD, client 5 with a revoked entry. -/
def deadLock : State :=
  let s := (withLock 30 (cfg true 3 .revoke 0) 57 State.reset).setRevoked 5 30 true
  (s.setLock 30 { s.lock 30 with state := .dead }).raise fun f => { f with lockDead := true }

/-- spec/12.3: locks 7, 40 and 41 before the reset of agent 3. -/
def beforeReset : State :=
  let s := withLock 7 (cfg false 0 .warn 0) 10 (withLock 40 (cfg false 0 .warn 0) 33 (withLock 41 (cfg true 0 .warn 0) 61 State.reset))
  let s := withHold (holdOf 12 7 .exclusive 10 none .budget) .held s
  let s := withHold (holdOf 22 40 .exclusive 33 none .budget) .held s
  let s := withHold (holdOf 1 41 .shared 60 none .budget) .shared s
  let s := withHold (holdOf 12 41 .shared 61 none .budget) .shared s
  let s := withWaiter 8 7 .exclusive 1 none s
  let s := withWaiter 13 40 .exclusive 2 none s
  let s := withWaiter 30 40 .exclusive 5 none s
  ((s.setRevoked 15 50 true).appendNotice 3 (.revoked 3 50 4)).appendNotice 3 (.mail 4 0)

/-- spec/12.3: agent 3 being reclaimed, its job at the position given with the set given left. -/
def reclaiming (set : SlotSet) (p : Position) : State :=
  let s := (beforeReset.setLine 3 { attach := .detaching, asserted := true }).setSlotStates 3 allSlots .detaching
  s.setActiveJob (some { job := { agent := 3, set := set, named := everySlot, scope := .agent }, position := p })

/-- spec/12.4: after the release of lock 3 under G = 4: clients 10 and 28 wait on the FREE locks 3 and 12. -/
def drained : State :=
  let s := withLock 3 (cfg false 0 .warn 0) 20 (withLock 12 (cfg false 0 .warn 0) 30 State.reset)
  let s := withWaiter 28 12 .exclusive 10 none (withWaiter 10 3 .exclusive 6 none s)
  s.setSu { s.su with gate := 4 }

/-- spec/12.4: the sweep running at a position under the gate given. -/
def sweeping (g : Fin 17) (n : LockId) (again : Bool) : State :=
  drained.setSu { drained.su with gate := g, sweep := { running := true, position := n, again := again } }

/-- A state whose interrupts, records and flags of agent 0 and of the supervisor are all up. -/
def flagged : State :=
  let s := State.reset.setNu 0
    { AgentNotices.powerOn with
      lost := true
      lostWarned := true
      fault := true
      multi := true
      faultRecord := some { window := false, command := 0, fault := .badOpcode } }
  let all : SupFlags := { accessErr := true, denial := true, lockDead := true, jobDone := true, sweepDone := true }
  s.setSu
    { s.su with flags := all, denialRecord := some { agent := 0, slot := 0, lock := 0, domain := 1 } }

/-- The time base running with the prescaler count given, PRESCALE 0. -/
def running (count : Nat) (s : State) : State :=
  s.setTb { run := true, prescale := 0, prescalerCount := count, now := 7 }

/-! ## WellFormed refuses (R128, R139, R144, R163, R168) -/

theorem test_wellFormed_badOpcode : WellFormed (.badOpcode 0 0 1 0) = false := by decide

theorem test_wellFormed_badCommand : WellFormed (.badCommand 10 0) = false := by decide

theorem test_wellFormed_accessMisuse : WellFormed (.accessMisuse ⟨0x100, .word, none⟩) = false := by decide +kernel

theorem test_wellFormed_clearLost : WellFormed (.clearLost 0 6) = false := by decide

theorem test_wellFormed_clearFault : WellFormed (.clearFault 0 5) = false := by decide

theorem test_wellFormed_clearMulti : WellFormed (.clearMulti 0 6) = false := by decide

theorem test_wellFormed_clearAccessErr : WellFormed (.clearAccessErr 0x1E) = false := by decide

theorem test_wellFormed_clearDenial : WellFormed (.clearDenial 0x1D) = false := by decide

theorem test_wellFormed_clearLockDead : WellFormed (.clearLockDead 0x1B) = false := by decide

theorem test_wellFormed_clearJobDone : WellFormed (.clearJobDone 0x17) = false := by decide

theorem test_wellFormed_clearSweepDone : WellFormed (.clearSweepDone 0x10F) = false := by decide

/-! ## Accesses decoded (R127 to R129, R161 to R163, R168) -/

/-- spec/11.4: ACQUIRE WAIT SHARED of lock 20 at priority 5 for slot 2. -/
theorem test_decode_acquire : decodeAcmd 3 0x0000BA91 = .acquire 3 2 20 .shared .wait 5 0 := by decide +kernel

/-- spec/11.4: RELEASE of lock 20 for slot 0. -/
theorem test_decode_release : decodeAcmd 3 0x00000282 = .release 3 0 20 0 := by decide +kernel

/-- spec/11.4: MAIL of payload 1234H to agent 6 from slot 3. -/
theorem test_decode_mail : decodeAcmd 3 0x001234DE = .mail 3 3 6 0x1234 0 := by decide +kernel

/-- R163: opcode 3, slot 1. -/
theorem test_decode_cancel : decodeAcmd 0 0x0000000B = .cancel 0 1 0 := by decide +kernel

/-- R163: opcode 4, slot 3, lock 63. -/
theorem test_decode_renew : decodeAcmd 0 0x000007FC = .renew 0 3 63 0 := by decide +kernel

/-- R163: opcode 5, slot 0, lock 1. -/
theorem test_decode_markClean : decodeAcmd 0 0x00000025 = .markClean 0 0 1 0 := by decide +kernel

/-- R163: a write of 00000000H to ACMD is a fault, not a command. -/
theorem test_decode_badOpcode : decodeAcmd 0 0 = .badOpcode 0 0 0 0 ∧ decodeAcmd 0 7 = .badOpcode 0 0 7 0 := by
  decide +kernel

/-- R168: code in bits 3:0, number in bits 13:8; every other bit ignored. -/
theorem test_decode_scmd :
    decodeScmd 0x00001E01 = .setcfg 30 ∧ decodeScmd 0xFFFFFEF6 = .inspectClient 62 ∧ decodeScmd 0x0000000B = .badCommand 11 0 := by
  decide +kernel

/-- R127: CLAIM10 of page 7, NOTICE of page 0, GATE of the control page. -/
theorem test_decode_addresses :
    decodeAccess ⟨0x1C28, .word, none⟩ = some (.claimRead 7 10)
      ∧ decodeAccess ⟨0x0140, .word, none⟩ = some (.noticePop 0)
      ∧ decodeAccess ⟨0x2020, .word, some 4⟩ = some (.gateWrite 4) := by
  decide +kernel

/-- R127, R160: the undecoded offsets at the ends of their ranges. -/
theorem test_decode_undecoded :
    regAt 0x104 = none ∧ regAt 0x10C = none ∧ regAt 0x15C = none ∧ regAt 0x168 = none ∧ regAt 0x3FC = none
      ∧ regAt 0x2038 = none ∧ regAt 0x206C = none ∧ regAt 0x207C = none ∧ regAt 0x2400 = none := by
  decide +kernel

/-- R139: one write that clears FAULT and MULTI is one command. -/
theorem test_decode_aflags : decodeAccess ⟨0x150, .word, some 6⟩ = some (.clearFault 0 6) := by decide +kernel

/-! ## Commands of clients -/

/-- spec/12.1: the TRY by client 2 is granted with generation 101; its result word by spec/11.5. -/
theorem test_acquire_granted :
    let t := after (.acquire 0 2 14 .exclusive .tryOnce 0 0) (withLock 14 (cfg false 0 .warn 0) 100 State.reset)
    (t.lock 14).state = .held ∧ (t.holders 14).map Hold.client = [2] ∧ t.freeCount = 95
      ∧ (t.client 2).result.encode = 0x018E0065 := by
  decide +kernel

/-- spec/12.1: a WAIT by client 17 at priority 3 goes ahead of client 9 at 7, and raises the ceiling of 2. -/
theorem test_acquire_queued :
    let t := after (.acquire 4 1 14 .exclusive .wait 3 0) (withWaiter 9 14 .exclusive 7 none chainHeld)
    (t.lock 14).queue = [17, 9] ∧ t.clientCeiling 2 = 3 ∧ t.freeCount = 93
      ∧ (t.client 17).result.result = .waiting := by
  decide +kernel

/-- spec/12.1: the RELEASE by client 2 grants client 17 with generation 102. -/
theorem test_release_hands_over :
    let t := after (.release 0 2 14 0) chain
    (t.holders 14).map Hold.client = [17] ∧ (t.lock 14).queue = [9, 26] ∧ (t.lock 14).generation = 102
      ∧ t.freeCount = 93 ∧ (t.nu 4).queue = [.granted 1 14 .exclusive false 102] := by
  decide +kernel

/-- spec/12.2: the RELEASE by client 12 without MARK_CLEAN makes lock 30 DEAD and flushes client 20. -/
theorem test_release_makes_dead :
    let t := after (.release 3 0 30 0) suspect
    (t.lock 30).state = .dead ∧ (t.lock 30).queue = [] ∧ t.freeCount = 96 ∧ t.su.flags.lockDead = true
      ∧ (t.nu 5).queue = [.waitEnded 0 30 .dead] ∧ (t.client 20).lastWaitEnd = .flushed
      ∧ (t.client 12).result.result = .releasedDead := by
  decide +kernel

/-- spec/12.1: the CANCEL by client 26 returns its record and its slot. -/
theorem test_cancel_waiting :
    let t := after (.cancel 6 2 0) chain
    (t.client 26).result.encode = 0x0D8E0000 ∧ (t.nu 6).reserved = 0 ∧ t.freeCount = 93 ∧ (t.nu 6).queue = [] := by
  decide +kernel

/-- R55: a CANCEL after a grant is TOO_LATE. -/
theorem test_cancel_too_late :
    ((after (.cancel 6 2 0) (chainHeld.setLastWaitEnd 26 .granted)).client 26).result.result = .tooLate := by
  decide +kernel

/-- R91, R92: a RENEW of a due hold gives it the whole budget again. -/
theorem test_renew :
    let t := after (.renew 1 1 30 0) revokeDue
    (t.client 5).result.encode = 0x0F5E0038 ∧ (t.holders 30).map Hold.countdown = [some 3] := by
  decide +kernel

/-- spec/12.2: MARK_CLEAN by client 12. -/
theorem test_markClean :
    let t := after (.markClean 3 0 30 0) suspect
    (t.lock 30).state = .held ∧ (t.lock 30).cleanPending = false ∧ (t.client 12).result.result = .cleaned := by
  decide +kernel

/-- R53: MARK_CLEAN of a HELD lock. -/
theorem test_markClean_not_suspect :
    ((after (.markClean 0 2 14 0) chainHeld).client 2).result.result = .notSuspect := by
  decide +kernel

/-- R107, R165: the MAIL notice of payload 1234H from client 3. -/
theorem test_mail :
    ((after (.mail 0 3 6 0x1234 0) State.reset).nu 6).queue.map Notice.encode = [0xA0031234] := by
  decide +kernel

/-- spec/12.3: MAIL to the agent being reclaimed is answered TARGET_OFF. -/
theorem test_mail_target_off :
    ((after (.mail 0 3 3 0x1234 0) (reclaiming everySlot .final)).client 3).result.result = .targetOff := by
  decide +kernel

/-- R129, R167: an undefined opcode is faulted and captured with fault code 1. -/
theorem test_badOpcode :
    let t := after (.badOpcode 2 1 7 0) State.reset
    (t.client 9).result.encode = 0x81400000 ∧ t.readReg (.agent 2 .faultrec) = some 0x1000000F := by
  decide +kernel

/-- spec/11.8: a claim-window read that faults SELF_HELD is captured as 61006149H. -/
theorem test_claimRead_captured :
    let s := withHold (holdOf 1 10 .exclusive 1 none .budget) .held (withLock 10 (cfg false 0 .warn 0) 1 State.reset)
    let t := after (.claimRead 0 10) (s.setWindow 0 { slot := 1, priority := 3 })
    t.readReg (.agent 0 .faultrec) = some 0x61006149 ∧ t.busData = 0x864A0000 := by
  decide +kernel

/-- R136: a write of CLAIMn releases for the window client. -/
theorem test_claimWrite :
    let t := after (.claimWrite 0 14 0xFFFFFFFF) (chainHeld.setWindow 0 { slot := 2, priority := 0 })
    (t.lock 14).state = .free ∧ (t.client 2).result.result = .released := by
  decide +kernel

/-! ## Notices and agent flags -/

/-- spec/12.3, spec/11.6: REVOKED (slot 3, lock 50, generation 4) is popped. -/
theorem test_noticePop :
    let t := after (.noticePop 3) beforeReset
    t.busData = 0x80F20004 ∧ (t.nu 3).queue = [.mail 4 0] := by
  decide +kernel

theorem test_clearLost :
    let t := after (.clearLost 0 1) flagged
    (t.nu 0).lost = false ∧ (t.nu 0).lostWarned = false ∧ (t.nu 0).fault = true := by
  decide +kernel

/-- R139: clearing FAULT clears MULTI and the record with it. -/
theorem test_clearFault :
    let t := after (.clearFault 0 2) flagged
    (t.nu 0).fault = false ∧ (t.nu 0).multi = false ∧ (t.nu 0).faultRecord = none ∧ (t.nu 0).lost = true := by
  decide +kernel

theorem test_clearMulti :
    let t := after (.clearMulti 0 4) flagged
    (t.nu 0).multi = false ∧ (t.nu 0).fault = true ∧ (t.nu 0).faultRecord ≠ none := by
  decide +kernel

/-! ## Registers -/

theorem test_accessMisuse :
    let t := after (.accessMisuse ⟨0x100, .byte, none⟩) State.reset
    t.su.flags.accessErr = true ∧ t.busData = 0 := by
  decide +kernel

/-- R105: the threshold stores 1 for 0 and 16 for more than 16. -/
theorem test_registerWrite_nqcfg :
    (after (.registerWrite (.nqcfg 0) 0) State.reset).readReg (.agent 0 .nqcfg) = some 1
      ∧ (after (.registerWrite (.nqcfg 0) 17) State.reset).readReg (.agent 0 .nqcfg) = some 16 := by
  decide +kernel

/-- R160: bits outside the fields of CFG_A are ignored. -/
theorem test_registerWrite_cfgA :
    (after (.registerWrite .cfgA 0xFFFFFFFF) State.reset).readReg (.control .cfgA) = some 0x0000333F := by
  decide +kernel

/-- spec/12.4: raising G from 4 to 8 starts the sweep at lock 0. -/
theorem test_gateWrite :
    let t := after (.gateWrite 8) drained
    t.su.gate = 8 ∧ t.su.sweep = { running := true, position := 0, again := false } := by
  decide +kernel

/-- spec/12.4: the write of 12 at position 30 sets AGAIN. -/
theorem test_gateWrite_again :
    (after (.gateWrite 12) (sweeping 8 30 false)).su.sweep = { running := true, position := 30, again := true } := by
  decide +kernel

/-- R80: a write that repeats the values in force leaves the current period alone. -/
theorem test_tbctrlWrite :
    (after (.tbctrlWrite 0x00000001) (running 9 State.reset)).tb.prescalerCount = 9
      ∧ (after (.tbctrlWrite 0x00010001) (running 9 State.reset)).tb.prescalerCount = 0 := by
  decide +kernel

/-- R81: TBNOW is ignored while running. -/
theorem test_tbnowWrite :
    (after (.tbnowWrite 5) (running 9 State.reset)).tb.now = 7 ∧ (after (.tbnowWrite 5) State.reset).tb.now = 5 := by
  decide +kernel

/-- R33: a threshold above 96 stores 96. -/
theorem test_poolstatWrite :
    (after (.poolstatWrite 0x00FF0000) State.reset).readReg (.control .poolstat) = some 0x00600060 := by
  decide +kernel

theorem test_clearAccessErr : (after (.clearAccessErr 1) flagged).readReg (.control .sflags) = some 0x1E := by
  decide +kernel

/-- R147: clearing DENIAL empties the denial record. -/
theorem test_clearDenial :
    let t := after (.clearDenial 2) flagged
    t.readReg (.control .sflags) = some 0x1D ∧ t.readReg (.control .denialrec) = some 0 := by
  decide +kernel

theorem test_clearLockDead : (after (.clearLockDead 4) flagged).readReg (.control .sflags) = some 0x1B := by
  decide +kernel

theorem test_clearJobDone : (after (.clearJobDone 8) flagged).readReg (.control .sflags) = some 0x17 := by
  decide +kernel

theorem test_clearSweepDone : (after (.clearSweepDone 0x10) flagged).readReg (.control .sflags) = some 0x0F := by
  decide +kernel

/-! ## Supervisor commands -/

/-- R2: the fourth action encoding is stored as WARN. -/
theorem test_setcfg :
    let t := after (.setcfg 30) (after (.registerWrite .cfgB 0x00070009) (after (.registerWrite .cfgA 0x0000312A) State.reset))
    (t.lock 30).config = { cfg true 9 .warn 7 with ceiling := 10, domain := 2, renewable := false }
      ∧ t.readReg (.control .sresult) = some 0x001E0101 := by
  decide +kernel

theorem test_online : ((after (.online 30) State.reset).lock 30).state = .free := by decide +kernel

/-- R11: a lock with a holder is BUSY. -/
theorem test_offline :
    let t := after (.offline 14) chainHeld
    (t.lock 14).state = .held ∧ t.readReg (.control .sresult) = some 0x000E0306 := by
  decide +kernel

/-- spec/12.2: RESTORE 30; LOCK_DEAD stays set. -/
theorem test_restore :
    let t := after (.restore 30) deadLock
    (t.lock 30).state = .free ∧ (t.lock 30).generation = 57 ∧ t.su.flags.lockDead = true
      ∧ t.readReg (.control .sresult) = some 0x001E0401 := by
  decide +kernel

/-- spec/12.2: the snapshot of the DEAD lock 30, by the layouts of spec/11.11. -/
theorem test_inspectLock :
    (after (.inspectLock 30) deadLock).su.inspect = #v[0x39061E01, 0x0000130F, 3, 0] := by
  decide +kernel

/-- spec/12.1: client 2 shows held count 1, mark 14 and ceiling 3; the number is used modulo 32. -/
theorem test_inspectClient :
    let t := after (.inspectClient 34) chain
    t.su.inspect = #v[0x00000202, 0x03004E11, 0, 0] ∧ t.readReg (.control .sresult) = some 0x00020601
      ∧ (after (.inspectClient 5) suspect).su.inspect.get 2 = 1 := by
  decide +kernel

/-- R116, R114: a waiting client named by 58 modulo 32 becomes DETACHING with a job at its WAIT phase. -/
theorem test_detachClient :
    let t := after (.detachClient 58) chain
    (t.client 26).state = .detaching ∧ t.readReg (.control .jobstat) = some 0x00008046
      ∧ t.readReg (.control .sresult) = some 0x001A0701 := by
  decide +kernel

/-- R117: a DETACHED agent. -/
theorem test_detachAgent :
    (after (.detachAgent 3) (after (.powerOnReset 8) State.reset)).readReg (.control .sresult) = some 0x00030802 := by
  decide +kernel

/-- spec/12.3: ATTACH 3 while the job runs is BUSY. -/
theorem test_attach_busy :
    (after (.attach 3) (reclaiming everySlot .final)).readReg (.control .sresult) = some 0x00030906 := by
  decide +kernel

/-- R117: the reset input still asserted. -/
theorem test_attach_line_held :
    (after (.attach 3) (after (.powerOnReset 8) State.reset)).readReg (.control .sresult) = some 0x00030908 := by
  decide +kernel

/-- R14, R158: a HELD lock is left ORPHANED. -/
theorem test_softReset :
    let t := after (.softReset 0) chain
    (t.lock 14).state = .orphaned ∧ (t.lock 14).queue = [] ∧ (t.lock 14).generation = 101 ∧ t.pool = []
      ∧ (t.client 17).state = .ready ∧ t.readReg (.control .sresult) = some 0x00000A01 := by
  decide +kernel

theorem test_badCommand :
    (after (.badCommand 15 63) State.reset).readReg (.control .sresult) = some 0x00000F03 := by
  decide +kernel

/-! ## Resets -/

/-- R112, R161: an agent whose input is asserted at power-on is DETACHED with its clients OFF. -/
theorem test_powerOnReset :
    let t := after (.powerOnReset 0x80) chain
    t.readReg (.agent 7 .ainfo) = some 0x00000127 ∧ t.readReg (.agent 7 (.cstat 0)) = some 0x10000000
      ∧ t.readReg (.agent 0 .ainfo) = some 0x00000100 := by
  decide +kernel

/-- spec/12.3: the assertion edge of agent 3's input. -/
theorem test_resetAssertion :
    let t := after (.resetAssertion 3) beforeReset
    (t.line 3).attach = .detaching ∧ (t.client 13).state = .detaching ∧ t.readReg (.control .jobstat) = some 0x000080F3
      ∧ (t.lock 40).queue = [13, 30] ∧ t.freeCount = 89 := by
  decide +kernel

/-- spec/12.3: the deassertion edge attaches the agent under AUTO_ATTACH. -/
theorem test_resetDeassertion :
    let t := after (.resetDeassertion 3) (after (.powerOnReset 8) State.reset)
    (t.line 3).attach = .attached ∧ (t.client 15).state = .ready := by
  decide +kernel

/-! ## Time -/

/-- R82: a due countdown stays due, and one tick more makes 1 due. -/
theorem test_tick :
    let s := running 3 (withHold (holdOf 2 14 .exclusive 1 (some 1) .budget) .held revokeDue)
    (after .tick s).holds.map Hold.countdown = [some 0, some 0] ∧ (after .tick s).tb.now = 8
      ∧ (after .tick s).tb.prescalerCount = 0 := by
  decide +kernel

/-- spec/12.2: the hold expiry of client 5: client 12 takes lock 30 over as SUSPECT. -/
theorem test_holdExpiry_revokes :
    let t := after (.holdExpiry 5 30) revokeDue
    (t.lock 30).state = .suspect ∧ (t.lock 30).cleanPending = true ∧ t.holders 30 = [holdOf 12 30 .exclusive 57 (some 3) .budget]
      ∧ (t.lock 30).queue = [20] ∧ t.freeCount = 94 ∧ t.inRevoked 5 30 = true
      ∧ (t.nu 1).queue = [.revoked 1 30 56] ∧ (t.nu 3).queue = [.granted 0 30 .exclusive true 57] := by
  decide +kernel

/-- R84: the wait of client 9 expires. -/
theorem test_waitExpiry :
    let t := after (.waitExpiry 9) (withWaiter 9 14 .exclusive 7 (some 0) chainHeld)
    (t.client 9).state = .ready ∧ (t.client 9).lastWaitEnd = .expired ∧ t.freeCount = 95
      ∧ (t.nu 2).queue = [.waitEnded 1 14 .expired] ∧ (t.nu 2).reserved = 0 := by
  decide +kernel

/-! ## Background steps -/

/-- spec/12.4: sweep step 3 under G = 8 grants client 10 with generation 21. -/
theorem test_sweepStep_grants :
    let t := after .sweepStep (sweeping 8 3 false)
    (t.lock 3).state = .held ∧ (t.lock 3).generation = 21 ∧ t.su.sweep.position = 4
      ∧ (t.nu 2).queue = [.granted 2 3 .exclusive false 21] := by
  decide +kernel

/-- spec/12.4: the last step of a pass with AGAIN set, and with AGAIN clear. -/
theorem test_sweepStep_ends :
    (after .sweepStep (sweeping 12 63 true)).readReg (.control .sweepstat) = some 1
      ∧ (after .sweepStep (sweeping 12 63 true)).su.flags.sweepDone = false
      ∧ (after .sweepStep (sweeping 12 63 false)).readReg (.control .sweepstat) = some 0
      ∧ (after .sweepStep (sweeping 12 63 false)).su.flags.sweepDone = true := by
  decide +kernel

/-- spec/12.3: the WAIT step of slot 1 cancels the wait of client 13 silently. -/
theorem test_waitStep :
    let t := after .waitStep (reclaiming #v[false, true, true, true] (.step 1 .wait))
    (t.lock 40).queue = [30] ∧ (t.client 13).lastWaitEnd = .cancelled ∧ (t.nu 3).reserved = 0 ∧ t.freeCount = 90
      ∧ (t.nu 3).queue.length = 2 := by
  decide +kernel

/-- spec/12.3: the first HOLD step of slot 0 takes the newest hold, on lock 41, which stays SHARED. -/
theorem test_holdStep :
    let t := after .holdStep (reclaiming everySlot (.step 0 .hold))
    (t.lock 41).state = .shared ∧ (t.holders 41).map Hold.client = [1] ∧ t.freeCount = 90
      ∧ (t.heldList 12).map Hold.lock = [7] := by
  decide +kernel

/-- spec/12.3: the FLUSH step of slot 3 removes REVOKED and leaves the MAIL; the final step comes next. -/
theorem test_flushStep :
    let t := after .flushStep (reclaiming #v[false, false, false, true] (.step 3 .flush))
    (t.nu 3).queue = [.mail 4 0] ∧ t.activeJob.map ActiveJob.position = some .final := by
  decide +kernel

/-- R121: the clients of a CLIENT-scope job of an ATTACHED agent become READY. -/
theorem test_clientJobFinalStep :
    let s := (chainHeld.setClientState 26 .detaching).setActiveJob
      (some { job := { agent := 6, set := Vector.replicate 4 false, named := onlySlot 2, scope := .client }, position := .final })
    let t := after .clientJobFinalStep s
    (t.client 26).state = .ready ∧ (t.client 26).lastWaitEnd = .cancelled ∧ t.su.flags.jobDone = true ∧ t.activeJob = none := by
  decide +kernel

/-- spec/12.3: the final step with the input still asserted. -/
theorem test_agentJobFinalStep :
    let t := after .agentJobFinalStep (reclaiming (Vector.replicate 4 false) .final)
    (t.line 3).attach = .detached ∧ (t.client 15).state = .off ∧ t.inRevoked 15 50 = false ∧ (t.nu 3).queue = []
      ∧ t.su.flags.jobDone = true ∧ t.activeJob = none := by
  decide +kernel

/-! ## Steps -/

/-- The state a step leaves. -/
def stepped (s : State) : State :=
  match step s with
  | .next t => t
  | .fault _ => s
  | .refused _ => s

/-- R80: with PRESCALE 0 the 64th clock period of a tick period is a tick. -/
theorem test_step_idle :
    (stepped (running 62 State.reset)).tb.prescalerCount = 63 ∧ (stepped (running 62 State.reset)).tb.now = 7
      ∧ (stepped (running 63 State.reset)).tb.prescalerCount = 0 ∧ (stepped (running 63 State.reset)).tb.now = 8 := by
  decide +kernel

/-! ## Witnesses: the hypotheses of each statement that has any are met together -/

/-- The three clauses, the two running ones at the last count of a period and the one before it. -/
theorem witness_IdleStepIsOneClockPeriod :
    (State.reset.pending = [] ∧ State.reset.tb.run = false)
      ∧ ((running 62 State.reset).pending = [] ∧ (running 62 State.reset).tb.run = true ∧ 62 + 1 < (0 + 1) * 64)
      ∧ (running 63 State.reset).pending = [] ∧ (running 63 State.reset).tb.run = true ∧ (0 + 1) * 64 ≤ 63 + 1 := by
  decide +kernel

/-- A sub-word access at any address, and a word access at a word address: misuse at 104H and at the last
word of the region, none at 100H; writes to read-only registers, which are ignored. -/
theorem witness_MisusedAccessesOnlySetAccessErr :
    let met (acc : BusAccess) := acc.size ≠ .word ∨ acc.address.toNat % 4 = 0
    let misuse (acc : BusAccess) := decodeAccess acc = some (.accessMisuse acc)
    (met ⟨0x0001, .byte, none⟩ ∧ misuse ⟨0x0001, .byte, none⟩)
      ∧ (met ⟨0x0104, .word, none⟩ ∧ misuse ⟨0x0104, .word, none⟩)
      ∧ (met ⟨0x3FFC, .word, some 0⟩ ∧ misuse ⟨0x3FFC, .word, some 0⟩)
      ∧ (met ⟨0x0100, .word, some 1⟩ ∧ ¬ misuse ⟨0x0100, .word, some 1⟩)
      ∧ decodeAccess ⟨0x0140, .word, some 5⟩ = some (.registerWrite (.readOnly (.notice 0)) 5)
      ∧ decodeAccess ⟨0x1D3C, .word, some 5⟩ = some (.registerWrite (.readOnly (.cstat 7 3)) 5)
      ∧ decodeAccess ⟨0x201C, .word, some 5⟩ = some (.registerWrite (.readOnly (.inspect 3)) 5)
      ∧ decodeAccess ⟨0x2078, .word, some 5⟩ = some (.registerWrite (.readOnly .denialrec) 5) := by
  decide +kernel

/-- A RELEASE of an OFFLINE lock is faulted, and so is a claim-window read of one. -/
theorem witness_FaultsChangeNothingElse :
    (∃ o t, State.reset.originOf (.release 0 2 14 0) = some o ∧ exec (.release 0 2 14 0) State.reset = .next t
      ∧ (t.client o.client).result.result.isFault = true)
      ∧ ∃ o t, State.reset.originOf (.claimRead 0 14) = some o ∧ exec (.claimRead 0 14) State.reset = .next t
        ∧ (t.client o.client).result.result.isFault = true :=
  ⟨⟨_, _, rfl, rfl, by decide +kernel⟩, _, _, rfl, rfl, by decide +kernel⟩

/-- A command of the client, SOFT_RESET and power-on each change a result register. -/
theorem witness_ResultRegistersAreWrittenByOwnCommandsOnly :
    let s := after (.release 0 2 14 0) State.reset
    ((after (.release 0 2 14 0) State.reset).client 2).result ≠ (State.reset.client 2).result
      ∧ ((after (.softReset 0) s).client 2).result ≠ (s.client 2).result
      ∧ ((after (.powerOnReset 0) s).client 2).result ≠ (s.client 2).result := by
  decide +kernel

/-- The clauses on the lock's state: an eligible EXCLUSIVE waiter on a FREE lock, one on an ORPHANED lock,
SHARED waiters ahead of an EXCLUSIVE one on a FREE and on a SHARED lock, none ahead on a SHARED lock, and a
lock in a state that grants nothing. -/
theorem witness_GrantEvaluationChoosesAheadOfTheFirstWriter :
    let free := withLock 14 (cfg true 0 .warn 0) 0 State.reset
    let writer := withWaiter 9 14 .exclusive 7 none free
    let reader := withWaiter 9 14 .exclusive 7 none (withWaiter 8 14 .shared 7 none free)
    let as (st : LockState) (s : State) := s.setLock 14 { s.lock 14 with state := st }
    (writer.eligibleWaiters 14 = [9] ∧ (writer.lock 14).state = .free ∧ writer.waitMode 9 = .exclusive)
      ∧ ((as .orphaned writer).lock 14).state = .orphaned
      ∧ (reader.eligibleWaiters 14 = [8] ++ [9] ∧ reader.waitMode 8 = .shared ∧ reader.waitMode 9 = .exclusive)
      ∧ ((as .shared reader).eligibleWaiters 14 = [8] ++ [9] ∧ ((as .shared reader).lock 14).state = .shared)
      ∧ ((as .shared writer).eligibleWaiters 14 = [] ++ [9] ∧ ((as .shared writer).lock 14).state = .shared)
      ∧ (chain.lock 14).state = .held := by
  decide +kernel

/-- A queue of three clients, each once. -/
theorem witness_GrantEvaluationGrantsInQueueOrder :
    let s := chain.setLock 14 { chain.lock 14 with state := .free }
    (s.lock 14).queue.Nodup ∧ s.waitersToGrant 14 = [17] := by
  decide +kernel

/-- A queue of three clients, each once. -/
theorem witness_DeadFlushEndsEveryWait : (chain.lock 14).queue.Nodup ∧ (chain.lock 14).queue = [17, 9, 26] := by
  decide +kernel

/-- An empty queue, a queue of one notice and one of two, and the two sub-word sizes. -/
theorem witness_NoticeReadsPopTheHead :
    (State.reset.nu 0).queue = [] ∧ ((State.reset.appendNotice 0 (.mail 4 0)).nu 0).queue = .mail 4 0 :: []
      ∧ (beforeReset.nu 3).queue = .revoked 3 50 4 :: [.mail 4 0]
      ∧ (BusAccess.mk 0x140 .byte none).size ≠ .word ∧ (BusAccess.mk 0x144 .halfword none).size ≠ .word
      ∧ (BusAccess.mk 0x140 .byte none).write = none ∧ (BusAccess.mk 0x144 .halfword none).write = none := by
  decide +kernel

theorem witness_AflagsWriteClearsTheFlagsWrittenAsOne (i : Instr) (h : i ∈ [.clearLost 0 1, .clearFault 0 2, .clearMulti 0 4]) :
    ∃ w, i = .clearLost 0 w ∨ i = .clearFault 0 w ∨ i = .clearMulti 0 w := by
  simp only [List.mem_cons, List.not_mem_nil, or_false] at h
  obtain rfl | rfl | rfl := h <;> simp

theorem witness_SflagsWriteClearsTheFlagsWrittenAsOne (i : Instr)
    (h : i ∈ [.clearAccessErr 1, .clearDenial 2, .clearLockDead 4, .clearJobDone 8, .clearSweepDone 16]) :
    ∃ w, i = .clearAccessErr w ∨ i = .clearDenial w ∨ i = .clearLockDead w ∨ i = .clearJobDone w ∨ i = .clearSweepDone w := by
  simp only [List.mem_cons, List.not_mem_nil, or_false] at h
  obtain rfl | rfl | rfl | rfl | rfl := h <;> simp

/-- An empty queue and a queue with a head; a lock that is not held by one client, and locks HELD and
SUSPECT with a holder. -/
theorem witness_InspectLockShowsTheRecord :
    (State.reset.lock 14).queue = [] ∧ (chain.lock 14).queue = 17 :: [9, 26]
      ∧ ¬ ((State.reset.lock 14).state = .held ∨ (State.reset.lock 14).state = .suspect)
      ∧ ((chain.lock 14).state = .held ∧ chain.holders 14 = holdOf 2 14 .exclusive 101 none .budget :: [])
      ∧ (suspect.lock 30).state = .suspect ∧ suspect.holders 30 = holdOf 12 30 .exclusive 57 (some 3) .budget :: [] := by
  decide +kernel

/-- The numbers at both ends, a client with neither mark nor wait, one with a mark, one with a wait. -/
theorem witness_InspectClientShowsTheContext :
    ((0 : ClientId).val = (0 : Fin 64).val % 32 ∧ (31 : ClientId).val = (63 : Fin 64).val % 32)
      ∧ (chain.mark 0 = none ∧ (chain.client 0).wait = none) ∧ chain.mark 2 = some 14
      ∧ ((chain.client 17).wait.map WaitRecord.lock) = some 14 := by
  decide +kernel

/-- A client with no hold, and one whose mark is the lower of two locks of equal ceiling, with a waiter. -/
theorem witness_MarkAndClientCeiling :
    beforeReset.heldList 0 = [] ∧ (beforeReset.heldList 12).map Hold.lock = [7, 41] ∧ beforeReset.mark 12 = some 41
      ∧ (beforeReset.lock 7).queue = [8] ∧ ((beforeReset.client 8).wait.map WaitRecord.priority) = some 1 := by
  decide +kernel

/-- The numbers at both ends, of a client and of an agent. -/
theorem witness_DetachCommandsPlaceARequest :
    ((0 : ClientId).val = (0 : Fin 64).val % 32 ∧ (31 : ClientId).val = (63 : Fin 64).val % 32)
      ∧ (0 : AgentId).val = (0 : Fin 64).val % 8 ∧ (7 : AgentId).val = (63 : Fin 64).val % 8 := by
  decide +kernel

theorem witness_AttachNeedsADetachedAgentAndAReleasedLine :
    (0 : AgentId).val = (0 : Fin 64).val % 8 ∧ (7 : AgentId).val = (63 : Fin 64).val % 8 := by
  decide +kernel

theorem witness_TickDecrementsEveryArmedCountdown :
    State.reset.tb.run = false ∧ (running 0 State.reset).tb.run = true := by
  decide +kernel

/-- A due hold on lock 14 in the phase given, the lock configured as given. -/
def dueHold (action : Action) (grace : BitVec 16) (phase : Phase) : State :=
  withHold (holdOf 2 14 .exclusive 101 (some 0) phase) .held (withLock 14 (cfg false 3 action grace) 101 State.reset)

/-- One due hold for each course: GRACE; BUDGET under WARN, under REVOKE, under WARN_REVOKE with grace 0
and with grace 1. -/
theorem witness_HoldExpiryWarnsOrRevokes :
    (dueHold .warn 0 .grace).findHold 2 14 = some (holdOf 2 14 .exclusive 101 (some 0) .grace)
      ∧ (dueHold .warn 0 .budget).findHold 2 14 = some (holdOf 2 14 .exclusive 101 (some 0) .budget)
      ∧ (dueHold .revoke 0 .budget).findHold 2 14 = some (holdOf 2 14 .exclusive 101 (some 0) .budget)
      ∧ (dueHold .warnRevoke 0 .budget).findHold 2 14 = some (holdOf 2 14 .exclusive 101 (some 0) .budget)
      ∧ (dueHold .warnRevoke 1 .budget).findHold 2 14 = some (holdOf 2 14 .exclusive 101 (some 0) .budget) := by
  decide +kernel

/-- A due wait of a WAITING client and of a DETACHING one. -/
theorem witness_WaitExpiryEndsTheWait :
    let s := withWaiter 9 14 .exclusive 7 (some 0) chainHeld
    let t := s.setClientState 9 .detaching
    let w : WaitRecord := { lock := 14, mode := .exclusive, priority := 7, countdown := some 0 }
    ((s.client 9).wait = some w ∧ w.countdown = some 0 ∧ (s.client 9).state = .waiting)
      ∧ (t.client 9).wait = some w ∧ (t.client 9).state = .detaching := by
  decide +kernel

/-- The sweep at lock 62, and at lock 63 with AGAIN clear and set. -/
theorem witness_SweepStepEvaluatesAndAdvances :
    (sweeping 8 62 false).su.sweep = { running := true, position := 62, again := false }
      ∧ (sweeping 8 63 false).su.sweep = { running := true, position := 63, again := false }
      ∧ (sweeping 8 63 true).su.sweep = { running := true, position := 63, again := true } := by
  decide +kernel

/-- A client without a wait and one with a wait, at the lowest and at the highest slot. -/
theorem witness_WaitStepCancelsTheWait :
    let last := withWaiter 15 40 .exclusive 6 none (reclaiming everySlot (.step 3 .wait))
    (reclaiming everySlot (.step 0 .wait)).activeJob =
        some { job := { agent := 3, set := everySlot, named := everySlot, scope := .agent }, position := .step 0 .wait }
      ∧ ((reclaiming everySlot (.step 0 .wait)).client 12).wait = none
      ∧ last.activeJob =
        some { job := { agent := 3, set := everySlot, named := everySlot, scope := .agent }, position := .step 3 .wait }
      ∧ (last.client 15).wait.isSome = true := by
  decide +kernel

/-- A client with two holds and a client with none. -/
theorem witness_HoldStepReclaimsTheNewestHold :
    let s := reclaiming everySlot (.step 0 .hold)
    let t := reclaiming everySlot (.step 3 .hold)
    s.activeJob =
        some { job := { agent := 3, set := everySlot, named := everySlot, scope := .agent }, position := .step 0 .hold }
      ∧ s.heldList (clientOf 3 0) = [holdOf 12 7 .exclusive 10 none .budget] ++ [holdOf 12 41 .shared 61 none .budget]
      ∧ ((s.heldList (clientOf 3 0)).map Hold.lock).Nodup
      ∧ t.activeJob =
        some { job := { agent := 3, set := everySlot, named := everySlot, scope := .agent }, position := .step 3 .hold }
      ∧ t.heldList (clientOf 3 3) = [] := by
  decide +kernel

theorem witness_FlushStepRemovesTheClientsNotices :
    (reclaiming everySlot (.step 3 .flush)).activeJob =
      some { job := { agent := 3, set := everySlot, named := everySlot, scope := .agent }, position := .step 3 .flush } := by
  decide +kernel

/-- A CLIENT-scope job of agent 6 at its final step, the agent in the attach state given. -/
def clientJobEnding (attach : AttachState) : State :=
  let s := (chainHeld.setClientState 26 .detaching).setLine 6 { attach := attach, asserted := false }
  s.setActiveJob
    (some { job := { agent := 6, set := Vector.replicate 4 false, named := onlySlot 2, scope := .client }, position := .final })

/-- An ATTACHED agent and a DETACHING one. -/
theorem witness_ClientJobEndReturnsOrCarriesTheClients :
    ((clientJobEnding .attached).activeJob =
        some
          { job := { agent := 6, set := Vector.replicate 4 false, named := onlySlot 2, scope := .client }
            position := .final })
      ∧ ((clientJobEnding .attached).line 6).attach = .attached
      ∧ ((clientJobEnding .detaching).activeJob =
        some
          { job := { agent := 6, set := Vector.replicate 4 false, named := onlySlot 2, scope := .client }
            position := .final })
      ∧ ((clientJobEnding .detaching).line 6).attach = .detaching := by
  decide +kernel

theorem witness_AgentJobEndTurnsTheClientsOff :
    (reclaiming (Vector.replicate 4 false) .final).activeJob =
      some
        { job := { agent := 3, set := Vector.replicate 4 false, named := everySlot, scope := .agent }
          position := .final } := by
  decide +kernel

/-- A hold and a wait with one tick to go, an idle sweep, no job, and a final step of either scope. -/
theorem witness_HappeningsThatAreNotDueChangeNothing :
    let s := withWaiter 9 14 .exclusive 7 (some 1)
      (withHold (holdOf 2 14 .exclusive 101 (some 1) .budget) .held (withLock 14 (cfg false 3 .warn 0) 101 State.reset))
    ((s.findHold 2 14).map Hold.countdown = some (some 1)) ∧ ((s.client 9).wait.map WaitRecord.countdown = some (some 1))
      ∧ s.findHold 3 14 = none ∧ (s.client 3).wait = none
      ∧ s.su.sweep.running = false ∧ s.activeJob = none
      ∧ ((clientJobEnding .attached).activeJob.map fun x => x.job.scope) = some .client
      ∧ ((reclaiming everySlot .final).activeJob.map fun x => x.job.scope) = some .agent := by
  decide +kernel

/-- SETCFG of an OFFLINE lock, and power-on over a lock configured otherwise. -/
theorem witness_ConfigurationChangesOnlyBySetcfg :
    let s := after (.registerWrite .cfgA 0) State.reset
    ((after (.setcfg 63) s).lock 63).config ≠ (s.lock 63).config
      ∧ ((after (.powerOnReset 0) revokeDue).lock 30).config ≠ (revokeDue.lock 30).config := by
  decide +kernel

/-- Client 8 waits on lock 7, which ranks above lock 3, held by it. -/
theorem witness_NoCycleOfWaits :
    let s := withLock 3 (cfg false 0 .warn 0) 0 (withLock 7 (cfg false 0 .warn 0) 0 State.reset)
    let s := withHold (holdOf 8 3 .exclusive 1 none .budget) .held (withHold (holdOf 2 7 .exclusive 1 none .budget) .held s)
    (withWaiter 8 7 .exclusive 1 none s).RankSound := by
  unfold State.RankSound State.WaitsOn
  decide +kernel

theorem witness_AcmdWordsAndCommandsCorrespond :
    WellFormed (.acquire 3 2 20 .shared .wait 5 0) = true
      ∧ encodeAcmd (.acquire 3 2 20 .shared .wait 5 0) = some 0x0000BA91
      ∧ WellFormed (.badOpcode 3 0 7 0) = true ∧ encodeAcmd (.badOpcode 3 0 7 0) = some 7 := by
  decide +kernel

theorem witness_ScmdWordsDecodeToTheirCommands :
    WellFormed (.setcfg 63) = true ∧ encodeScmd (.setcfg 63) = some 0x00003F01
      ∧ WellFormed (.badCommand 11 0) = true ∧ encodeScmd (.badCommand 11 0) = some 0x0000000B := by
  decide +kernel

/-- An undecoded word offset at each end of each range, and a decoded one beside it. -/
theorem witness_RegistersStandAtTheirAddresses :
    (0x104 : BitVec 14).toNat % 4 = 0 ∧ (0x10C : BitVec 14).toNat % 4 = 0 ∧ (0x3FFC : BitVec 14).toNat % 4 = 0
      ∧ regAt 0x100 = some (.agent 0 .acmd) ∧ regAt 0x110 = some (.agent 0 (.result 0))
      ∧ regAt 0x1D64 = some (.agent 7 .ainfo) ∧ regAt 0x2078 = some (.control .denialrec) := by
  decide +kernel

/-! ### A sound state with a holder, waiters and a reclaim job, and a step from it -/

/-- The job of client 26, which DETACH_CLIENT has made DETACHING while it waits. -/
def job26 : ActiveJob where
  job := { agent := 6, set := onlySlot 2, named := onlySlot 2, scope := .client }
  position := .step 2 .wait

/-- `chain` with client 26 being reclaimed and the RELEASE by client 2 at the front of the queue. -/
def busy : State :=
  { ((chain.setClientState 26 .detaching).setActiveJob (some job26)) with pending := [.release 0 2 14 0] }

theorem busy_locksSound : busy.LocksSound := by
  intro n
  refine ⟨?_, ?_⟩
  · have states : ∀ n, (busy.lock n).state = .held ∨ (busy.lock n).state = .offline := by decide +kernel
    have key : holdersAgree (busy.lock n).state (busy.holders n) ↔
        if (busy.lock n).state = .held then (busy.holders n).map Hold.mode = [.exclusive] else busy.holders n = [] := by
      rcases states n with h | h <;> rw [h] <;> rfl
    rw [key]
    clear key
    revert n
    decide +kernel
  · revert n
    decide +kernel

theorem busy_waitsSound : busy.WaitsSound := by
  unfold State.WaitsSound State.WaitsOn
  decide +kernel

theorem busy_jobsSound : busy.JobsSound := by
  unfold State.JobsSound Job.names State.jobs
  refine ⟨by decide +kernel, by decide +kernel, by decide +kernel, by decide +kernel, by decide +kernel,
    by decide +kernel, by decide +kernel, by decide +kernel, fun x hx => ?_⟩
  obtain rfl : job26 = x := Option.some.inj hx
  unfold State.ActiveSound State.Stripped
  exact ⟨by decide +kernel, by decide +kernel, rfl, by decide +kernel⟩

theorem busy_sound : busy.Sound where
  locks := busy_locksSound
  waits := busy_waitsSound
  clients := by
    unfold State.ClientsSound
    decide +kernel
  pool := by
    unfold State.PoolSound State.WaitsOn
    decide +kernel
  notices := by
    unfold State.NoticesSound
    decide +kernel
  denial := by
    unfold State.DenialSound
    decide +kernel
  rank := by
    unfold State.RankSound State.WaitsOn
    decide +kernel
  jobs := busy_jobsSound
  sweep := by
    unfold State.SweepSound State.Settled
    decide +kernel

/-- The step from `busy` is the RELEASE, and it grants client 17. -/
theorem busy_step : ∃ t, step busy = .next t ∧ (t.holders 14).map Hold.client = [17] :=
  ⟨_, rfl, by decide +kernel⟩

theorem witness_LockTableLawsAreKept : ∃ s t : State, s.LocksSound ∧ step s = .next t :=
  ⟨busy, _, busy_locksSound, rfl⟩

theorem witness_QueuesAndWaitRecordsStayInAgreement : ∃ s t : State, s.Sound ∧ step s = .next t :=
  ⟨busy, _, busy_sound, rfl⟩

theorem witness_HoldPoolLawsAreKept : ∃ s t : State, s.Sound ∧ step s = .next t :=
  ⟨busy, _, busy_sound, rfl⟩

theorem witness_NoticeSlotsNeverExceedSixteen : ∃ s t : State, s.Sound ∧ step s = .next t :=
  ⟨busy, _, busy_sound, rfl⟩

theorem witness_DenialRecordIsFullWhileDenialIsSet : ∃ s t : State, s.DenialSound ∧ step s = .next t :=
  ⟨busy, _, busy_sound.denial, rfl⟩

theorem witness_RankOrderIsKept : ∃ s t : State, s.Sound ∧ step s = .next t :=
  ⟨busy, _, busy_sound, rfl⟩

theorem witness_JobsAgreeWithAttachAndClientStates : ∃ s t : State, s.Sound ∧ step s = .next t :=
  ⟨busy, _, busy_sound, rfl⟩

theorem witness_IdleSweepLeavesNoGrantableWaiter : ∃ s t : State, s.Sound ∧ step s = .next t :=
  ⟨busy, _, busy_sound, rfl⟩

/-- The records empty and full, the full fault record with a fault, and no ACTIVE job and one. -/
theorem witness_RegistersReadTheirFields :
    (State.reset.nu 0).faultRecord = none
      ∧ (∃ r, (flagged.nu 0).faultRecord = some r ∧ r.fault.isFault = true)
      ∧ State.reset.activeJob = none
      ∧ (∃ x, (reclaiming everySlot .final).activeJob = some x)
      ∧ State.reset.su.denialRecord = none
      ∧ ∃ r, flagged.su.denialRecord = some r :=
  ⟨by decide +kernel, ⟨_, rfl, by decide +kernel⟩, rfl, ⟨_, rfl⟩, rfl, _, rfl⟩

end Sys2Proof.Tests
end

section
/-! The DEAD flush (R13): what the reported ends of the waits of a list of clients leave, part by part, and
its closed form. -/

namespace Sys2Proof.Machine

/-- Everything a reported end of a wait does (R13, R84), for any client. -/
theorem State.endWaitReported_waitEnded (s : State) (c : ClientId) (n : LockId) (e : WaitEnd) (r : WaitEndReason) :
    (s.endWaitReported c n e r).WaitEnded s c n
      (if (s.client c).state = .detaching then .detaching else .ready) e
      (if (s.client c).state = .detaching then none else some (.waitEnded (slotOf c) n r)) := by
  by_cases hd : (s.client c).state = .detaching
  · simpa only [if_pos hd] using State.endWaitReported_silent n e r hd
  · simpa only [if_neg hd] using State.endWaitReported_notified n e r hd

/-- The waits of the clients on lock `n` end flushed, one after the other (R13). -/
def State.flushWaits (s : State) (n : LockId) (cs : List ClientId) : State :=
  cs.foldl (fun s c => s.endWaitReported c n .flushed .dead) s

theorem State.deadFlush_eq (s : State) (n : LockId) : s.deadFlush n = s.flushWaits n (s.lock n).queue := rfl

@[simp] theorem State.flushWaits_nil (s : State) (n : LockId) : s.flushWaits n [] = s := rfl

@[simp] theorem State.flushWaits_cons (s : State) (n : LockId) (c : ClientId) (cs : List ClientId) :
    s.flushWaits n (c :: cs) = (s.endWaitReported c n .flushed .dead).flushWaits n cs := rfl

/-! ### The parts, for any clients -/

theorem State.flushWaits_frame (s : State) (n : LockId) (cs : List ClientId) :
    s.flushWaits n cs =
      { s with
        locks := (s.flushWaits n cs).locks
        pool := (s.flushWaits n cs).pool
        clients := (s.flushWaits n cs).clients
        notices := (s.flushWaits n cs).notices } := by
  induction cs generalizing s with
  | nil => rfl
  | cons c cs ih =>
    obtain ⟨-, -, -, -, -, -, -, frame⟩ := s.endWaitReported_waitEnded c n .flushed .dead
    rw [State.flushWaits_cons, ih, frame]

theorem State.flushWaits_lock (s : State) (n : LockId) (cs : List ClientId) :
    (s.flushWaits n cs).lock n = { s.lock n with queue := (s.lock n).queue.diff cs } := by
  induction cs generalizing s with
  | nil => rfl
  | cons c cs ih =>
    obtain ⟨-, -, lock, -⟩ := s.endWaitReported_waitEnded c n .flushed .dead
    rw [State.flushWaits_cons, ih, lock, List.diff_cons]

theorem State.flushWaits_lock_of_ne (s : State) {n m : LockId} (hm : m ≠ n) (cs : List ClientId) :
    (s.flushWaits n cs).lock m = s.lock m := by
  induction cs generalizing s with
  | nil => rfl
  | cons c cs ih =>
    obtain ⟨-, -, -, others, -⟩ := s.endWaitReported_waitEnded c n .flushed .dead
    rw [State.flushWaits_cons, ih, others m hm]

theorem State.flushWaits_pool (s : State) (n : LockId) (cs : List ClientId) :
    (s.flushWaits n cs).pool = withoutReservations n cs s.pool := by
  induction cs generalizing s with
  | nil => rfl
  | cons c cs ih =>
    obtain ⟨-, -, -, -, pool, -⟩ := s.endWaitReported_waitEnded c n .flushed .dead
    rw [State.flushWaits_cons, ih, pool]
    rfl

theorem State.flushWaits_client_of_not_mem (s : State) (n : LockId) {cs : List ClientId} {d : ClientId}
    (hd : d ∉ cs) : (s.flushWaits n cs).client d = s.client d := by
  induction cs generalizing s with
  | nil => rfl
  | cons c cs ih =>
    obtain ⟨hdc, hdcs⟩ := List.ne_and_not_mem_of_not_mem_cons hd
    obtain ⟨-, others, -⟩ := s.endWaitReported_waitEnded c n .flushed .dead
    rw [State.flushWaits_cons, ih _ hdcs, others d hdc]

/-! ### The parts, for clients none of which stands twice -/

theorem State.flushWaits_client_of_mem (s : State) (n : LockId) {cs : List ClientId} (nd : cs.Nodup)
    {d : ClientId} (hd : d ∈ cs) :
    (s.flushWaits n cs).client d =
      { s.client d with
        state := if (s.client d).state = .detaching then .detaching else .ready
        wait := none
        lastWaitEnd := .flushed } := by
  induction cs generalizing s with
  | nil => cases hd
  | cons c cs ih =>
    obtain ⟨hc, nd⟩ := List.nodup_cons.1 nd
    obtain ⟨client, others, -⟩ := s.endWaitReported_waitEnded c n .flushed .dead
    rw [State.flushWaits_cons]
    rcases List.mem_cons.1 hd with rfl | hd
    · rw [State.flushWaits_client_of_not_mem _ n hc, client]
    · have hdc : d ≠ c := fun e => hc (e ▸ hd)
      rw [ih _ nd hd, others d hdc]

/-- Each client that is not DETACHING has its notice, in the order of the list; each gives up a slot. -/
theorem State.flushWaits_nu (s : State) (n : LockId) {cs : List ClientId} (nd : cs.Nodup) (a : AgentId) :
    (s.flushWaits n cs).nu a =
      { s.nu a with
        queue :=
          (s.nu a).queue
            ++ ((cs.filter fun c => (s.client c).state != .detaching).filter fun c => agentOf c == a).map
              fun c => .waitEnded (slotOf c) n .dead
        reserved := (s.nu a).reserved - cs.countP fun c => agentOf c == a } := by
  induction cs generalizing s with
  | nil => simp
  | cons c cs ih =>
    obtain ⟨hc, nd⟩ := List.nodup_cons.1 nd
    obtain ⟨-, others, -, -, -, nu, nus, -⟩ := s.endWaitReported_waitEnded c n .flushed .dead
    have later : cs.filter (fun d => ((s.endWaitReported c n .flushed .dead).client d).state != .detaching) =
        cs.filter fun d => (s.client d).state != .detaching :=
      List.filter_congr fun d hd => by rw [others d fun e => hc (e ▸ hd)]
    rw [State.flushWaits_cons, ih _ nd, later]
    by_cases ha : a = agentOf c
    · subst ha
      rw [nu]
      by_cases hd : (s.client c).state = .detaching <;> simp [hd, Nat.sub_sub, Nat.add_comm]
    · have hca : agentOf c ≠ a := fun e => ha e.symm
      rw [nus a ha]
      by_cases hd : (s.client c).state = .detaching <;> simp [hd, hca]

/-! ### The closed form -/

theorem list_diff_self {α : Type} [DecidableEq α] (l : List α) : l.diff l = [] := by
  induction l with
  | nil => rfl
  | cons x l ih => rw [List.diff_cons, List.erase_cons_head, ih]

/-- What the DEAD flush leaves of each lock (R13). -/
theorem State.deadFlush_lock (s : State) (n m : LockId) :
    (s.deadFlush n).lock m = if m = n then { s.lock n with queue := [] } else s.lock m := by
  rw [State.deadFlush_eq]
  by_cases hm : m = n
  · rw [if_pos hm, hm, State.flushWaits_lock, list_diff_self]
  · rw [if_neg hm, State.flushWaits_lock_of_ne s hm]

theorem State.afterFlush_lock (s : State) (n m : LockId) :
    (s.afterFlush n).lock m = if m = n then { s.lock n with queue := [] } else s.lock m :=
  vector_get_set _ _ _ _

theorem State.afterFlush_client (s : State) (n : LockId) (c : ClientId) :
    (s.afterFlush n).client c =
      if c ∈ (s.lock n).queue then
        { s.client c with
          state := if (s.client c).state = .detaching then .detaching else .ready
          wait := none
          lastWaitEnd := .flushed }
      else s.client c := by
  simp [State.afterFlush, State.client]

theorem State.afterFlush_nu (s : State) (n : LockId) (a : AgentId) :
    (s.afterFlush n).nu a =
      { s.nu a with
        queue :=
          (s.nu a).queue
            ++ (((s.lock n).queue.filter fun c => (s.client c).state != .detaching).filter
                fun c => agentOf c == a).map fun c => .waitEnded (slotOf c) n .dead
        reserved := (s.nu a).reserved - (s.lock n).queue.countP fun c => agentOf c == a } :=
  vector_get_ofFn _ _

/-- Settles O16: part by part, the fold over the queue is the closed form; a queue without repeats keeps
each client as it was until its own wait ends. -/
theorem deadFlushEndsEveryWait : Obligations.DeadFlushEndsEveryWait := by
  intro s n nd
  have locks : (s.deadFlush n).locks = (s.afterFlush n).locks :=
    State.locks_ext fun m => by rw [State.deadFlush_lock, State.afterFlush_lock]
  have pool : (s.deadFlush n).pool = (s.afterFlush n).pool := s.flushWaits_pool n _
  have clients : (s.deadFlush n).clients = (s.afterFlush n).clients := by
    refine State.clients_ext fun c => ?_
    rw [State.afterFlush_client, State.deadFlush_eq]
    split
    · next hc => exact s.flushWaits_client_of_mem n nd hc
    · next hc => exact s.flushWaits_client_of_not_mem n hc
  have notices : (s.deadFlush n).notices = (s.afterFlush n).notices :=
    State.notices_ext fun a => by rw [State.afterFlush_nu, State.deadFlush_eq, s.flushWaits_nu n nd]
  rw [State.deadFlush_eq, State.flushWaits_frame, ← State.deadFlush_eq, locks, pool, clients, notices]
  rfl

end Sys2Proof.Machine
end

section
/-! The lock commands of the supervisor (R2, R11, R12): each sets one lock record and gives a result. -/

namespace Sys2Proof.Machine

theorem State.setLock_lockChanged (s : State) (n : LockId) (l : LockRecord) :
    (s.setLock n l).LockChanged s n l :=
  ⟨by simp, fun k hk => by simp [hk], rfl⟩

theorem State.setSResult_reported (s : State) (r : SupResult) (code : BitVec 4) (number : Fin 64) :
    (s.setSResult r code number).Reported s r code number :=
  ⟨rfl, rfl, rfl, rfl, rfl⟩

/-- What a claim of OFFLINE comes to (R11): it succeeds where the lock is drained, and where it is OFFLINE. -/
theorem offlineClaim_eq (l : LockRecord) :
    offlineClaim l =
      let drained := (l.state = .free ∨ l.state = .orphaned ∨ l.state = .dead) ∧ l.queue = []
      (if drained ∨ l.state = .offline then .done else .busy, if drained then .offline else l.state) := by
  unfold offlineClaim
  cases l.state <;> by_cases hq : l.queue = [] <;> simp [hq]

/-! ### Each command in closed form -/

/-- A command that sets a lock record on a condition, and gives a result either way. -/
theorem State.ite_setLock_setSResult (s : State) (n : LockId) (l : LockRecord) (P : Prop) [Decidable P]
    (yes no : SupResult) (code : BitVec 4) (number : Fin 64) :
    (if P then (s.setLock n l).setSResult yes code number else s.setSResult no code number) =
      (s.setLock n (if P then l else s.lock n)).setSResult (if P then yes else no) code number := by
  split
  · rfl
  · rw [State.setLock_self]

theorem exec_setcfg (n : LockId) (s : State) :
    exec (.setcfg n) s =
      .next ((s.setLock n
          (if (s.lock n).state = .offline then { s.lock n with config := stagedConfig s.su.cfgA s.su.cfgB }
            else s.lock n)).setSResult
        (if (s.lock n).state = .offline then .done else .notOffline) 1 n) :=
  congrArg Host.Outcome.next (State.ite_setLock_setSResult ..)

theorem exec_online (n : LockId) (s : State) :
    exec (.online n) s =
      .next ((s.setLock n
          (if (s.lock n).state = .offline then { s.lock n with state := .free } else s.lock n)).setSResult
        (if (s.lock n).state = .offline then .done else .notOffline) 2 n) :=
  congrArg Host.Outcome.next (State.ite_setLock_setSResult ..)

theorem exec_restore (n : LockId) (s : State) :
    exec (.restore n) s =
      .next ((s.setLock n
          (if (s.lock n).state = .dead then { s.lock n with state := .free } else s.lock n)).setSResult
        (if (s.lock n).state = .dead then .done else .notDead) 4 n) :=
  congrArg Host.Outcome.next (State.ite_setLock_setSResult ..)

theorem exec_offline (n : LockId) (s : State) :
    exec (.offline n) s =
      let l := s.lock n
      let drained := (l.state = .free ∨ l.state = .orphaned ∨ l.state = .dead) ∧ l.queue = []
      .next ((s.setLock n (if drained then { l with state := .offline } else l)).setSResult
        (if drained ∨ l.state = .offline then .done else .busy) 3 n) := by
  show execOffline n s = _
  unfold execOffline
  simp only [offlineClaim_eq]
  split <;> rfl

/-- A command that sets one lock record and gives a result does that and nothing else. -/
theorem lockChanged_reported_of_exec_eq {i : Instr} {s : State} {n : LockId} {l : LockRecord} {r : SupResult}
    {code : BitVec 4} (h : exec i s = .next ((s.setLock n l).setSResult r code n)) :
    ∃ t u : State, exec i s = .next t ∧ u.LockChanged s n l ∧ t.Reported u r code n :=
  ⟨_, _, h, s.setLock_lockChanged n l, State.setSResult_reported _ r code n⟩

/-- Settles O25, from the closed form of each command. -/
theorem lockCommandsOfTheSupervisor : Obligations.LockCommandsOfTheSupervisor := fun n s =>
  ⟨lockChanged_reported_of_exec_eq (exec_setcfg n s), lockChanged_reported_of_exec_eq (exec_online n s),
    lockChanged_reported_of_exec_eq (exec_offline n s), lockChanged_reported_of_exec_eq (exec_restore n s)⟩

end Sys2Proof.Machine
end

section
/-! The laws of one lock record (R3, R4, R5, R61), and what each change of the pool or of the record does to
them. -/

namespace Sys2Proof.Machine

/-! ### The holders of a lock after a change of the pool -/

theorem State.holders_eq (s : State) (n : LockId) :
    s.holders n = (s.pool.filterMap PoolRecord.hold?).filter fun h => h.lock == n := rfl

theorem State.holders_of_pool {s t : State} (h : t.pool = s.pool) (n : LockId) : t.holders n = s.holders n := by
  rw [State.holders_eq, State.holders_eq, h]

theorem State.holders_of_reservation {s t : State} {c : ClientId} {m : LockId}
    (h : t.pool = s.pool ++ [.reservation c m]) (n : LockId) : t.holders n = s.holders n := by
  rw [State.holders_eq, State.holders_eq, h, List.filterMap_append]
  simp

theorem State.holders_of_erase_reservation {s t : State} {c : ClientId} {m : LockId}
    (h : t.pool = s.pool.erase (.reservation c m)) (n : LockId) : t.holders n = s.holders n := by
  rw [State.holders_eq, State.holders_eq, h, holds_erase_reservation]

theorem holds_withoutReservations (n : LockId) (cs : List ClientId) (p : List PoolRecord) :
    (withoutReservations n cs p).filterMap PoolRecord.hold? = p.filterMap PoolRecord.hold? := by
  induction cs generalizing p with
  | nil => rfl
  | cons c cs ih => exact (ih _).trans (holds_erase_reservation p c n)

/-- A new hold joins the holders of its lock, as the last, and of no other. -/
theorem State.holders_of_append {s t : State} {p : List PoolRecord} {x : Hold}
    (hp : p.filterMap PoolRecord.hold? = s.holds) (h : t.pool = p ++ [.hold x]) (n : LockId) :
    t.holders n = if x.lock = n then s.holders n ++ [x] else s.holders n := by
  rw [State.holders_eq, h, List.filterMap_append, hp, List.filter_append]
  by_cases hx : x.lock = n <;> simp [hx, State.holders]

/-- A hold that leaves the pool leaves the holders of its lock and of no other. -/
theorem State.holders_of_erase {s t : State} {x : Hold} (h : t.pool = s.pool.erase (.hold x)) (n : LockId) :
    t.holders n = (s.holders n).erase x := by
  rw [State.holders_eq, h, holds_erase]
  by_cases hx : x.lock = n
  · exact filter_erase_of_pos _ x (by simp [hx]) _
  · have absent : x ∉ s.holders n := fun hm => hx ((s.mem_holders_iff n x).1 hm).2
    rw [List.erase_of_not_mem absent, State.holders, State.holds]
    induction s.pool.filterMap PoolRecord.hold? with
    | nil => rfl
    | cons y l ih => by_cases e : y = x <;> simp [e, hx, ih, List.filter_cons]

/-- A change of holds in place that keeps their locks and modes keeps the modes of the holders of a lock. -/
theorem State.holders_modes_of_map {s t : State} {f : PoolRecord → PoolRecord}
    (hr : ∀ c n, f (.reservation c n) = .reservation c n)
    (hh : ∀ x, ∃ y, f (.hold x) = .hold y ∧ y.lock = x.lock ∧ y.mode = x.mode)
    (h : t.pool = s.pool.map f) (n : LockId) :
    (t.holders n).map Hold.mode = (s.holders n).map Hold.mode := by
  rw [State.holders_eq, State.holders_eq, h]
  induction s.pool with
  | nil => rfl
  | cons r p ih =>
    cases r with
    | reservation c m => simpa [hr] using ih
    | hold x =>
      obtain ⟨y, hy, hlock, hmode⟩ := hh x
      by_cases hx : x.lock = n <;> simpa [hy, hlock, hmode, hx, List.filter_cons] using ih

/-! ### The laws of a lock, in its record and the modes of its holders -/

/-- The holders agree with a state by their modes alone. -/
theorem holdersAgree_congr {st : LockState} {hs hs' : List Hold} (h : hs'.map Hold.mode = hs.map Hold.mode) :
    holdersAgree st hs' ↔ holdersAgree st hs := by
  have nil : hs' = [] ↔ hs = [] := by rw [← List.map_eq_nil_iff (f := Hold.mode), h, List.map_eq_nil_iff]
  have all : (∀ x ∈ hs', x.mode = .shared) ↔ ∀ x ∈ hs, x.mode = .shared := by
    rw [← List.forall_mem_map (f := Hold.mode) (P := (· = Mode.shared)), h, List.forall_mem_map]
  cases st <;> simp only [holdersAgree, ne_eq, h, nil, all]

/-- All holders of a sound lock hold it in one mode. -/
theorem holdersAgree_mode_eq {st : LockState} {hs : List Hold} (h : holdersAgree st hs) {x y : Hold}
    (hx : x ∈ hs) (hy : y ∈ hs) : x.mode = y.mode := by
  have one : hs.map Hold.mode = [.exclusive] → x.mode = y.mode := fun e => by
    have mode : ∀ z ∈ hs, z.mode = .exclusive := fun z hz => by
      simpa [e] using List.mem_map_of_mem (f := Hold.mode) hz
    rw [mode x hx, mode y hy]
  have none : hs = [] → x.mode = y.mode := fun e => by simp [e] at hx
  cases st
  case held => exact one h
  case suspect => exact one h
  case shared => rw [h.2 x hx, h.2 y hy]
  all_goals exact none h

/-- The states in which a lock has no waiters (R4). -/
def LockState.closed (st : LockState) : Prop :=
  st = .offline ∨ st = .dead

/-- The states in which a lock has no holder and awaits no clean declaration (R3, R5). -/
def LockState.unheld (st : LockState) : Prop :=
  st = .free ∨ st = .orphaned ∨ st = .dead ∨ st = .offline

/-- A lock whose state, holders and clean_pending are kept stays sound while its queue is lawful. -/
theorem State.LockSound.of_queue {s t : State} {n : LockId} (h : s.LockSound n)
    (state : (t.lock n).state = (s.lock n).state) (clean : (t.lock n).cleanPending = (s.lock n).cleanPending)
    (modes : (t.holders n).map Hold.mode = (s.holders n).map Hold.mode)
    (empty : (s.lock n).state.closed → (t.lock n).queue = [])
    (bound : (t.lock n).queue.length ≤ Config.waitersPerLock) : t.LockSound n := by
  obtain ⟨agree, -, pending, -⟩ := h
  refine ⟨?_, ?_, ?_, bound⟩
  · rw [state, holdersAgree_congr modes]
    exact agree
  · rw [state]
    exact empty
  · rw [state, clean]
    exact pending

/-- So it does when its queue has not grown. -/
theorem State.LockSound.of_queue_le {s t : State} {n : LockId} (h : s.LockSound n)
    (state : (t.lock n).state = (s.lock n).state) (clean : (t.lock n).cleanPending = (s.lock n).cleanPending)
    (modes : (t.holders n).map Hold.mode = (s.holders n).map Hold.mode)
    (le : (t.lock n).queue.length ≤ (s.lock n).queue.length) : t.LockSound n := by
  have ⟨_, empty, _, bound⟩ := h
  refine h.of_queue state clean modes (fun closed => ?_) (le.trans bound)
  rw [empty closed] at le
  exact List.eq_nil_of_length_eq_zero (Nat.le_zero.1 le)

/-- A lock without holders, not awaiting a clean declaration, in a state that says so, with a lawful queue. -/
theorem State.lockSound_of_no_holders {t : State} {n : LockId} (state : (t.lock n).state.unheld)
    (holders : t.holders n = []) (clean : (t.lock n).cleanPending = false)
    (empty : (t.lock n).state.closed → (t.lock n).queue = [])
    (bound : (t.lock n).queue.length ≤ Config.waitersPerLock) : t.LockSound n := by
  refine ⟨?_, empty, ?_, bound⟩
  · rcases state with e | e | e | e <;> rw [e] <;> exact holders
  · rcases state with e | e | e | e <;> simp [e, clean]

/-! ### Grants (R6) -/

/-- The states in which a lock can be granted in a mode (R40, R45). -/
def LockState.grantable : LockState → Mode → Bool
  | .free, _ => true
  | .shared, .shared => true
  | .orphaned, .exclusive => true
  | _, _ => false

/-- The holders agree with the state after the grant of a hold. -/
theorem holdersAgree_append {st : LockState} {hs : List Hold} {x : Hold} (h : holdersAgree st hs)
    (adm : st.grantable x.mode = true) : holdersAgree (stateAfterGrant st x.mode) (hs ++ [x]) := by
  cases hm : x.mode <;> rw [hm] at adm <;> cases st <;> cases adm
  case exclusive.free => simp [holdersAgree, stateAfterGrant, show hs = [] from h, hm]
  case exclusive.orphaned => simp [holdersAgree, stateAfterGrant, show hs = [] from h, hm]
  case shared.free => simp [holdersAgree, stateAfterGrant, show hs = [] from h, hm]
  case shared.shared =>
    refine ⟨by simp, fun y hy => ?_⟩
    rcases List.mem_append.1 hy with hy | hy
    · exact h.2 y hy
    · rw [List.mem_singleton.1 hy, hm]

theorem stateAfterGrant_not_closed {st : LockState} {m : Mode} (adm : st.grantable m = true) :
    ¬ (stateAfterGrant st m).closed := by
  cases st <;> cases m <;> simp_all [LockState.grantable, stateAfterGrant, LockState.closed]

/-- The grant of an ORPHANED lock, and no other, makes it SUSPECT (R5, R6). -/
theorem stateAfterGrant_suspect_iff {st : LockState} {m : Mode} (adm : st.grantable m = true) :
    stateAfterGrant st m = .suspect ↔ st = .orphaned := by
  cases st <;> cases m <;> simp_all [LockState.grantable, stateAfterGrant]

/-- A grant in a mode the lock's state admits keeps the laws of the lock. -/
theorem State.LockSound.of_grant {s t : State} {n : LockId} {x : Hold} (h : s.LockSound n)
    (adm : (s.lock n).state.grantable x.mode = true) (holders : t.holders n = s.holders n ++ [x])
    (state : (t.lock n).state = stateAfterGrant (s.lock n).state x.mode)
    (clean : (t.lock n).cleanPending = ((s.lock n).state == .orphaned))
    (queue : (t.lock n).queue.length ≤ (s.lock n).queue.length) : t.LockSound n := by
  obtain ⟨agree, -, -, bound⟩ := h
  refine ⟨?_, fun closed => ?_, ?_, queue.trans bound⟩
  · rw [holders, state]
    exact holdersAgree_append agree adm
  · rw [state] at closed
    exact absurd closed (stateAfterGrant_not_closed adm)
  · rw [clean, state, beq_iff_eq, stateAfterGrant_suspect_iff adm]

/-! ### Removals (R7, R10) -/

/-- An EXCLUSIVE holder of a sound lock is its only one. -/
theorem holdersAgree_singleton {st : LockState} {hs : List Hold} {x : Hold} (h : holdersAgree st hs) (hx : x ∈ hs)
    (hm : x.mode = .exclusive) : hs = [x] := by
  have one : hs.map Hold.mode = [.exclusive] → hs = [x] := fun e => by
    obtain ⟨y, rfl, -⟩ := List.map_eq_singleton_iff.1 e
    rw [List.mem_singleton.1 hx]
  have none : hs = [] → hs = [x] := fun e => by simp [e] at hx
  cases st
  case held => exact one h
  case suspect => exact one h
  case shared => exact absurd (h.2 x hx) (by simp [hm])
  all_goals exact none h

/-- The holders agree with the state after the removal of a hold. -/
theorem holdersAgree_erase {st alone : LockState} {hs : List Hold} {x : Hold} (h : holdersAgree st hs) (hx : x ∈ hs)
    (ha : alone = .free ∨ alone = .orphaned) :
    holdersAgree (if x.mode = .exclusive then alone else if 2 ≤ hs.length then .shared else .free) (hs.erase x) := by
  by_cases hm : x.mode = .exclusive
  · rw [if_pos hm, holdersAgree_singleton h hx hm]
    rcases ha with rfl | rfl <;> simp [holdersAgree]
  · have length := List.length_erase_of_mem hx
    have shared : ∀ y ∈ hs, y.mode = .shared := fun y hy => by
      rw [holdersAgree_mode_eq h hy hx]
      cases e : x.mode
      · exact absurd e hm
      · rfl
    rw [if_neg hm]
    split
    · refine ⟨List.ne_nil_of_length_pos (by omega), fun y hy => shared y (List.mem_of_mem_erase hy)⟩
    · exact List.eq_nil_of_length_eq_zero (by omega)

/-- The removal of a hold from a sound lock leaves it sound. -/
theorem State.HoldRemoved.lockSound {s u : State} {x : Hold} {alone : LockState} (hr : u.HoldRemoved s x alone)
    (ha : alone = .free ∨ alone = .orphaned) (hx : x ∈ s.holders x.lock) (h : s.LockSound x.lock) :
    u.LockSound x.lock := by
  obtain ⟨pool, lock, -, -⟩ := hr
  obtain ⟨agree, -, -, bound⟩ := h
  have admitting : (u.lock x.lock).state = .free ∨ (u.lock x.lock).state = .orphaned
      ∨ (u.lock x.lock).state = .shared := by
    rw [lock]
    dsimp only
    split
    · exact ha.imp_right .inl
    · split <;> simp
  refine ⟨?_, ?_, ?_, by rw [lock]; exact bound⟩
  · rw [lock, State.holders_of_erase pool]
    exact holdersAgree_erase agree hx ha
  · rintro (e | e) <;> simp [e] at admitting
  · rcases admitting with e | e | e <;> rw [e, lock] <;> simp

end Sys2Proof.Machine
end

section
/-! What the procedures do to the lock table: each keeps the configuration of every lock, and the laws of
every lock (R3, R4, R5, R61). -/

namespace Sys2Proof.Machine

/-! ### The relation and how it composes -/

/-- Lock `n` of `t` has the configuration it has in `s`, and is sound if it is in `s`. -/
def State.LockKept (t s : State) (n : LockId) : Prop :=
  (t.lock n).config = (s.lock n).config ∧ (s.LockSound n → t.LockSound n)

/-- So has every lock. -/
structure State.TableKept (t s : State) : Prop where
  lock : ∀ n, t.LockKept s n

theorem State.TableKept.config {s t : State} (h : t.TableKept s) (n : LockId) :
    (t.lock n).config = (s.lock n).config :=
  (h.lock n).1

theorem State.TableKept.lockSound {s t : State} (h : t.TableKept s) {n : LockId} (hs : s.LockSound n) :
    t.LockSound n :=
  (h.lock n).2 hs

theorem State.TableKept.locksSound {s t : State} (h : t.TableKept s) (hs : s.LocksSound) : t.LocksSound :=
  fun n => h.lockSound (hs n)

theorem State.LockKept.of_same {s t : State} {n : LockId} (lock : t.lock n = s.lock n)
    (modes : (t.holders n).map Hold.mode = (s.holders n).map Hold.mode) : t.LockKept s n := by
  exact ⟨by rw [lock], fun h => h.of_queue_le (by rw [lock]) (by rw [lock]) modes (by rw [lock])⟩

/-- An operation that keeps the lock records and the pool keeps the lock table. -/
theorem State.TableKept.of_parts {s t : State} (locks : t.locks = s.locks) (pool : t.pool = s.pool) :
    t.TableKept s :=
  ⟨fun n => .of_same (by rw [State.lock, locks, State.lock]) (by rw [State.holders_of_pool pool])⟩

theorem State.TableKept.refl (s : State) : s.TableKept s := .of_parts rfl rfl

theorem State.TableKept.trans {r s t : State} (h₂ : t.TableKept s) (h₁ : s.TableKept r) : t.TableKept r :=
  ⟨fun n => ⟨(h₂.config n).trans (h₁.config n), fun h => h₂.lockSound (h₁.lockSound h)⟩⟩

/-- An operation that keeps the lock records and the pool may follow. -/
theorem State.TableKept.congr {r s t : State} (h : s.TableKept r) (locks : t.locks = s.locks)
    (pool : t.pool = s.pool) : t.TableKept r :=
  .trans (.of_parts locks pool) h

theorem State.TableKept.setSu {s t : State} (h : t.TableKept s) (u : Supervisor) : (t.setSu u).TableKept s :=
  h.congr rfl rfl

/-- An operation on one lock keeps the lock table when it keeps that lock. -/
theorem State.TableKept.of_lock {s t : State} {n : LockId} (kept : t.LockKept s n)
    (others : ∀ m, m ≠ n → t.lock m = s.lock m) (holders : ∀ m, m ≠ n → t.holders m = s.holders m) :
    t.TableKept s := by
  refine ⟨fun m => ?_⟩
  by_cases hm : m = n
  · exact hm ▸ kept
  · exact .of_same (others m hm) (by rw [holders m hm])

theorem State.TableKept.foldl {α : Type} {f : State → α → State} (h : ∀ s x, (f s x).TableKept s) (l : List α)
    (s : State) : (l.foldl f s).TableKept s := by
  induction l generalizing s with
  | nil => exact .refl s
  | cons x l ih => exact (ih _).trans (h s x)

theorem State.answer_tableKept (s : State) (o : Origin) (r : Result) (n : LockId) (g : BitVec 16) :
    (s.answer o r n g).TableKept s :=
  .of_parts (by simp) (by simp)

/-! ### Holds changed in place -/

theorem State.updateHold_tableKept (s : State) (c : ClientId) (n : LockId) {f : Hold → Hold}
    (lock : ∀ x, (f x).lock = x.lock) (mode : ∀ x, (f x).mode = x.mode) : (s.updateHold c n f).TableKept s := by
  refine ⟨fun m => .of_same rfl (State.holders_modes_of_map (fun _ _ => rfl) (fun x => ?_) rfl m)⟩
  by_cases hx : (x.client == c && x.lock == n) = true
  · exact ⟨f x, if_pos hx, lock x, mode x⟩
  · exact ⟨x, if_neg hx, rfl, rfl⟩

theorem State.tick_tableKept (s : State) : s.tick.TableKept s := by
  have modes := State.holders_modes_of_map (s := s) (t := s.tick) (f := PoolRecord.tick) (fun _ _ => rfl)
    (fun x => ⟨_, rfl, rfl, rfl⟩) (by simp [State.tick])
  exact ⟨fun n => .of_same (by simp [State.tick]) (modes n)⟩

/-! ### The end of a wait (R63) -/

/-- A client leaves the queue of a lock, and no hold is touched. -/
theorem State.TableKept.of_dequeue {s t : State} {c : ClientId} {n : LockId}
    (lock : t.lock n = { s.lock n with queue := (s.lock n).queue.erase c })
    (others : ∀ m, m ≠ n → t.lock m = s.lock m) (pool : t.pool = s.pool.erase (.reservation c n)) :
    t.TableKept s := by
  have holders := State.holders_of_erase_reservation pool
  refine .of_lock ⟨by rw [lock], fun h => ?_⟩ others fun m _ => holders m
  exact h.of_queue_le (by rw [lock]) (by rw [lock]) (by rw [holders]) (by rw [lock]; exact List.length_erase_le)

theorem State.WaitEnded.tableKept {s u : State} {c : ClientId} {n : LockId} {st : ClientState} {e : WaitEnd}
    {notice : Option Notice} (h : u.WaitEnded s c n st e notice) : u.TableKept s := by
  obtain ⟨-, -, lock, others, pool, -⟩ := h
  exact .of_dequeue lock others pool

theorem State.endWait_lock (s : State) (c : ClientId) (n m : LockId) :
    (s.endWait c n).lock m =
      if m = n then { s.lock n with queue := (s.lock n).queue.erase c } else s.lock m := by
  simp [State.endWait, State.leaveQueue]

theorem State.endWait_tableKept (s : State) (c : ClientId) (n : LockId) : (s.endWait c n).TableKept s :=
  .of_dequeue (by rw [State.endWait_lock, if_pos rfl]) (fun m hm => by rw [State.endWait_lock, if_neg hm])
    (eraseP_isReservationOf c n s.pool)

/-! ### Grants (R6, R42, R46) -/

theorem State.createHold_tableKept {s : State} (c : ClientId) {n : LockId} {m : Mode}
    (adm : (s.lock n).state.grantable m = true) : (s.createHold c n m).TableKept s := by
  have holders := fun k => State.holders_of_append (s := s) (t := s.createHold c n m) rfl rfl k
  refine .of_lock (n := n) ⟨by simp [State.createHold], fun sound => ?_⟩ (fun k hk => by simp [State.createHold, hk])
    fun k hk => by rw [holders, if_neg hk.symm]
  exact sound.of_grant adm (by rw [holders, if_pos rfl]) (by simp [State.createHold]) (by simp [State.createHold])
    (by simp [State.createHold])

/-- A waiter with no wait record is not granted. -/
theorem State.grantWaiter_of_no_wait {s : State} {n : LockId} {c : ClientId} (hw : (s.client c).wait = none) :
    s.grantWaiter n c = s := by
  unfold State.grantWaiter
  rw [hw]

theorem State.grantWaiter_tableKept {s : State} {n : LockId} {c : ClientId}
    (adm : ∀ w, (s.client c).wait = some w → (s.lock n).state.grantable w.mode = true) :
    (s.grantWaiter n c).TableKept s := by
  cases hw : (s.client c).wait with
  | none => rw [State.grantWaiter_of_no_wait hw]; exact .refl s
  | some w =>
    have created := State.createHold_tableKept (s := s.endWait c n) c (n := n) (m := w.mode)
      (by rw [State.endWait_lock, if_pos rfl]; exact adm w hw)
    unfold State.grantWaiter
    rw [hw]
    exact (created.trans (s.endWait_tableKept c n)).congr rfl rfl

/-- The state of the lock a waiter with a wait record is granted. -/
theorem State.grantWaiter_lockState {s : State} {n : LockId} {c : ClientId} {w : WaitRecord}
    (hw : (s.client c).wait = some w) :
    ((s.grantWaiter n c).lock n).state = stateAfterGrant (s.lock n).state w.mode := by
  rw [State.grantWaiter_eq hw]
  simp [State.lock, vector_get_set]

/-- A grant leaves a client without a wait record, or with the one it had. -/
theorem State.grantWaiter_wait {s : State} {n : LockId} {c d : ClientId} {w : WaitRecord}
    (h : ((s.grantWaiter n c).client d).wait = some w) : (s.client d).wait = some w := by
  cases hw : (s.client c).wait with
  | none => rwa [State.grantWaiter_of_no_wait hw] at h
  | some x =>
    rw [State.grantWaiter_eq hw] at h
    simp only [State.client, vector_get_set] at h
    split at h
    · cases h
    · exact h

/-- The grants of SHARED waiters of a FREE or SHARED lock. -/
theorem State.foldl_grantWaiter_tableKept_of_shared {n : LockId} (cs : List ClientId) {s : State}
    (state : (s.lock n).state = .free ∨ (s.lock n).state = .shared)
    (modes : ∀ c ∈ cs, ∀ w, (s.client c).wait = some w → w.mode = .shared) :
    (cs.foldl (State.grantWaiter n) s).TableKept s := by
  induction cs generalizing s with
  | nil => exact .refl s
  | cons c cs ih =>
    have mode := modes c List.mem_cons_self
    refine (ih ?_ fun d hd w hw => modes d (List.mem_cons_of_mem c hd) w (State.grantWaiter_wait hw)).trans
      (State.grantWaiter_tableKept fun w hw => ?_)
    · cases hw : (s.client c).wait with
      | none => rwa [State.grantWaiter_of_no_wait hw]
      | some w =>
        rw [State.grantWaiter_lockState hw, mode w hw]
        rcases state with e | e <;> simp [e, stateAfterGrant]
    · rw [mode w hw]
      rcases state with e | e <;> simp [e, LockState.grantable]

/-- A client that waits SHARED has a SHARED wait record. -/
theorem State.mode_of_waitsShared {s : State} {c : ClientId} (h : s.waitsShared c = true) {w : WaitRecord}
    (hw : (s.client c).wait = some w) : w.mode = .shared := by
  simpa [State.waitMode, hw] using (s.waitsShared_iff c).1 h

theorem State.grantEval_tableKept (s : State) (n : LockId) : (s.grantEval n).TableKept s := by
  have batch : (s.lock n).state = .free ∨ (s.lock n).state = .shared → ∀ q : List ClientId,
      ((q.takeWhile s.waitsShared).foldl (State.grantWaiter n) s).TableKept s := fun state q =>
    State.foldl_grantWaiter_tableKept_of_shared _ state fun c hc _ hw =>
      State.mode_of_waitsShared (List.mem_takeWhile_imp hc) hw
  unfold State.grantEval
  cases hs : (s.lock n).state
  case free =>
    cases hq : s.eligibleWaiters n with
    | nil => rw [State.waitersToGrant_free_nil hs hq]; exact .refl s
    | cons c q =>
      rw [State.waitersToGrant_free_cons hs hq]
      split
      · exact batch (.inl hs) _
      · exact State.grantWaiter_tableKept fun w _ => by rw [hs]; rfl
  case shared =>
    rw [State.waitersToGrant_shared hs]
    exact batch (.inr hs) _
  case orphaned =>
    rw [State.waitersToGrant_orphaned hs]
    cases hq : s.eligibleWaiters n with
    | nil => exact .refl s
    | cons c q =>
      refine State.grantWaiter_tableKept fun w hw => ?_
      have eligible := ((s.mem_eligibleWaiters n c).1 (hq ▸ List.mem_cons_self)).2
      obtain ⟨x, hx, -, -, mode⟩ := (s.eligible_iff n c).1 eligible
      obtain rfl : w = x := Option.some.inj (hw.symm.trans hx)
      cases hm : w.mode
      · rw [hs]; rfl
      · exact absurd ⟨hs, hm⟩ mode
  all_goals rw [State.waitersToGrant_closed (by simp [hs])]; exact .refl s

/-! ### Removals (R7, R8, R10) -/

/-- The removal of a hold keeps the lock table, when it is the one found for its client and lock. -/
theorem State.HoldRemoved.tableKept {s u : State} {x : Hold} {alone : LockState} (h : u.HoldRemoved s x alone)
    (ha : alone = .free ∨ alone = .orphaned) (hx : PoolRecord.hold x ∈ s.pool) : u.TableKept s := by
  have ⟨pool, lock, others, _⟩ := h
  have holder : x ∈ s.holders x.lock := (s.mem_holders_iff x.lock x).2 ⟨hx, rfl⟩
  refine .of_lock ⟨by rw [lock], h.lockSound ha holder⟩ others fun m hm => ?_
  rw [State.holders_of_erase pool, List.erase_of_not_mem]
  exact fun hxm => hm ((s.mem_holders_iff m x).1 hxm).2.symm

/-- Any hold of the pool: where its client has several on the lock, they have one mode, and it does not
matter which of them leaves. -/
theorem State.removeHold_tableKept {s : State} {x : Hold} {alone : LockState} (ha : alone = .free ∨ alone = .orphaned)
    (hx : PoolRecord.hold x ∈ s.pool) : (s.removeHold x alone).TableKept s := by
  have found : (s.findHold x.client x.lock).isSome = true :=
    (s.findHold_isSome_iff x.client x.lock).2 ⟨x, (s.mem_heldList_iff x.client x).2 ⟨hx, rfl⟩, rfl⟩
  obtain ⟨y, hy⟩ := Option.isSome_iff_exists.1 found
  obtain ⟨client, lock, mem⟩ := State.findHold_some hy
  have pool : (s.removeHold x alone).pool = s.pool.erase (.hold y) := State.eraseP_isHoldOf hy
  refine .of_lock (n := x.lock) ⟨by simp [State.removeHold], fun sound => ?_⟩
    (fun m hm => by simp [State.removeHold, hm]) fun m hm => ?_
  · have mode : x.mode = y.mode := holdersAgree_mode_eq sound.1 ((s.mem_holders_iff x.lock x).2 ⟨hx, rfl⟩)
      ((s.mem_holders_iff x.lock y).2 ⟨mem, lock⟩)
    have same : s.removeHold x alone = s.removeHold y alone := by
      unfold State.removeHold
      rw [client, lock, mode]
    rw [same]
    exact ((State.removeHold_holdRemoved alone hy).tableKept ha mem).lockSound sound
  · rw [State.holders_of_erase pool, List.erase_of_not_mem]
    exact fun hym => hm (((s.mem_holders_iff m y).1 hym).2.symm.trans lock)

/-- What a lock's death leaves of each lock (R8). -/
theorem State.makeDead_lock (s : State) (c : ClientId) (n m : LockId) :
    (s.makeDead c n).lock m =
      if m = n then { s.lock n with state := .dead, queue := [], cleanPending := false } else s.lock m := by
  unfold State.makeDead
  rw [State.raise_eq, State.setSu_lock, State.deadFlush_lock]
  by_cases hm : m = n <;> simp [hm]

theorem State.makeDead_holders {s : State} {c : ClientId} {n : LockId} {x : Hold} (hx : s.findHold c n = some x)
    (m : LockId) : (s.makeDead c n).holders m = (s.holders m).erase x := by
  have pool : (s.makeDead c n).pool = withoutReservations n (s.lock n).queue (s.pool.erase (.hold x)) := by
    unfold State.makeDead
    rw [State.raise_eq, State.setSu_pool, State.deadFlush_eq, State.flushWaits_pool]
    simp [State.eraseP_isHoldOf hx]
  rw [State.holders_eq, pool, holds_withoutReservations]
  exact State.holders_of_erase (t := s.setPool (s.pool.erase (.hold x))) rfl m

theorem State.makeDead_tableKept {s : State} {c : ClientId} {n : LockId} {x : Hold}
    (hx : s.findHold c n = some x) (suspect : (s.lock n).state = .suspect) : (s.makeDead c n).TableKept s := by
  obtain ⟨-, lock, mem⟩ := State.findHold_some hx
  refine .of_lock (n := n) ⟨by simp [State.makeDead_lock], fun sound => ?_⟩
    (fun m hm => by simp [State.makeDead_lock, hm]) fun m hm => ?_
  · obtain ⟨agree, -⟩ := sound
    rw [suspect] at agree
    have holders : s.holders n = [x] := by
      obtain ⟨y, hy, -⟩ := List.map_eq_singleton_iff.1 agree
      have hxy := (s.mem_holders_iff n x).2 ⟨mem, lock⟩
      rw [hy] at hxy
      rw [hy, List.mem_singleton.1 hxy]
    exact State.lockSound_of_no_holders (by simp [State.makeDead_lock, LockState.unheld])
      (by simp [State.makeDead_holders hx, holders])
      (by simp [State.makeDead_lock]) (by simp [State.makeDead_lock]) (by simp [State.makeDead_lock])
  · rw [State.makeDead_holders hx, List.erase_of_not_mem]
    exact fun hxm => hm (((s.mem_holders_iff m x).1 hxm).2.symm.trans lock)

/-! ### A lock without holders changes its state (R11, R12) -/

/-- A lock without holders and waiters becomes FREE or OFFLINE. -/
theorem State.setLockState_tableKept {s : State} {n : LockId} {st : LockState}
    (empty : (s.lock n).state.closed ∨ (s.lock n).queue = [])
    (unheld : (s.lock n).state.unheld) (next : st = .free ∨ st = .offline) :
    (s.setLock n { s.lock n with state := st }).TableKept s := by
  refine .of_lock (n := n) ⟨by simp, fun sound => ?_⟩ (fun m hm => by simp [hm]) fun m _ => rfl
  obtain ⟨agree, closed, pending, bound⟩ := sound
  have queue : (s.lock n).queue = [] := empty.elim closed id
  have holders : s.holders n = [] := by
    rcases unheld with e | e | e | e <;> rw [e] at agree <;> exact agree
  have clean : (s.lock n).cleanPending = false := by
    rw [← Bool.not_eq_true, pending]
    rcases unheld with e | e | e | e <;> simp [e]
  exact State.lockSound_of_no_holders (by rcases next with rfl | rfl <;> simp [LockState.unheld]) (by simpa using holders)
    (by simpa using clean) (by simp [queue]) (by simp [queue])

theorem State.setLock_ite_tableKept {s : State} {n : LockId} {l : LockRecord} {P : Prop} [Decidable P]
    (h : P → (s.setLock n l).TableKept s) : (s.setLock n (if P then l else s.lock n)).TableKept s := by
  split
  · next hp => exact h hp
  · rw [State.setLock_self]
    exact .refl s

end Sys2Proof.Machine
end

section
/-! What the commands do to the lock table: all but SETCFG and the power-on reset keep it, and these two keep
its laws. -/

namespace Sys2Proof.Machine

/-! ### ACQUIRE (R38 to R43) -/

/-- A check that does not refuse does not apply, and leaves the decision to the checks after it. -/
theorem check_passed {P : Prop} [Decidable P] {r : Result} {e d : Decision} (h : (if P then .refuse r else e) = d)
    (passed : ∀ r, d ≠ .refuse r) : ¬ P ∧ e = d := by
  split at h
  · exact absurd h.symm (passed r)
  · next hp => exact ⟨hp, h⟩

/-- An ACQUIRE that no check of R38 refuses is for a lock in service, and is decided by the later checks. -/
theorem State.acquireDecision_of_passed {s : State} {a : AgentId} {c : ClientId} {n : LockId} {m : Mode} {k : Kind}
    {p : Priority} {d : Decision} (h : s.acquireDecision a c n m k p = d) (passed : ∀ r, d ≠ .refuse r) :
    ¬ (s.lock n).state.closed ∧ s.grantDecision a n m k p = d := by
  unfold State.acquireDecision at h
  obtain ⟨-, h⟩ := check_passed h passed
  obtain ⟨-, h⟩ := check_passed h passed
  obtain ⟨-, h⟩ := check_passed h passed
  obtain ⟨offline, h⟩ := check_passed h passed
  obtain ⟨-, h⟩ := check_passed h passed
  obtain ⟨dead, h⟩ := check_passed h passed
  obtain ⟨-, h⟩ := check_passed h passed
  obtain ⟨-, h⟩ := check_passed h passed
  obtain ⟨-, h⟩ := check_passed h passed
  obtain ⟨-, h⟩ := check_passed h passed
  exact ⟨fun closed => closed.elim offline dead, h⟩

theorem State.queueDecision_enqueue {s : State} {a : AgentId} {n : LockId} {k : Kind}
    (h : s.queueDecision a n k = .enqueue) : (s.lock n).queue.length < Config.waitersPerLock := by
  unfold State.queueDecision at h
  split_ifs at h with h₁ h₂ h₃ h₄
  exact Nat.lt_of_not_le h₂

theorem State.queueDecision_ne_grant (s : State) (a : AgentId) (n : LockId) (k : Kind) :
    s.queueDecision a n k ≠ .grant := by
  unfold State.queueDecision
  split_ifs <;> simp

/-- A request is granted only where the lock's state admits its mode (R40). -/
theorem State.grantable_of_grantableAtOnce {s : State} {n : LockId} {m : Mode} (h : s.grantableAtOnce n m = true) :
    (s.lock n).state.grantable m = true := by
  unfold State.grantableAtOnce at h
  cases m <;> cases hs : (s.lock n).state <;> simp_all [LockState.grantable]

theorem State.grantDecision_grant {s : State} {a : AgentId} {n : LockId} {m : Mode} {k : Kind} {p : Priority}
    (h : s.grantDecision a n m k p = .grant) : (s.lock n).state.grantable m = true := by
  unfold State.grantDecision at h
  split_ifs at h with _ _ now
  · exact absurd h (s.queueDecision_ne_grant a n k)
  · exact State.grantable_of_grantableAtOnce now
  · exact absurd h (s.queueDecision_ne_grant a n k)

theorem State.grantDecision_enqueue {s : State} {a : AgentId} {n : LockId} {m : Mode} {k : Kind} {p : Priority}
    (h : s.grantDecision a n m k p = .enqueue) : (s.lock n).queue.length < Config.waitersPerLock := by
  unfold State.grantDecision at h
  split_ifs at h <;> exact State.queueDecision_enqueue h

theorem insertWaiter_length (priority : ClientId → Priority) (c : ClientId) (p : Priority) (q : List ClientId) :
    (insertWaiter priority c p q).length = q.length + 1 := by
  obtain ⟨ahead, behind, hq, hi, -⟩ := insertWaiter_split priority c p q
  rw [hi, hq]
  simp [Nat.add_assoc]

theorem State.enqueue_tableKept {s : State} (c : ClientId) {n : LockId} (m : Mode) (p : Priority)
    (serving : ¬ (s.lock n).state.closed) (room : (s.lock n).queue.length < Config.waitersPerLock) :
    (s.enqueue c n m p).TableKept s := by
  have holders := State.holders_of_reservation (t := s.enqueue c n m p) rfl
  refine .of_lock (n := n) ⟨by simp [State.enqueue], fun sound => ?_⟩ (fun k hk => by simp [State.enqueue, hk])
    fun k _ => holders k
  exact sound.of_queue (by simp [State.enqueue]) (by simp [State.enqueue]) (by rw [holders])
    (fun closed => absurd closed serving) (by simpa [State.enqueue, insertWaiter_length] using room)

theorem State.acquireOp_tableKept (s : State) (o : Origin) (n : LockId) (m : Mode) (k : Kind) (p : Priority) :
    (s.acquireOp o n m k p).TableKept s := by
  unfold State.acquireOp
  split
  · exact s.answer_tableKept ..
  · next h =>
    obtain ⟨-, granted⟩ := State.acquireDecision_of_passed h (by simp)
    exact (State.answer_tableKept ..).trans
      (State.createHold_tableKept o.client (State.grantDecision_grant granted))
  · next h =>
    obtain ⟨serving, queued⟩ := State.acquireDecision_of_passed h (by simp)
    exact (State.grantEval_tableKept _ n).trans ((State.answer_tableKept ..).trans
      (State.enqueue_tableKept o.client m p serving (State.grantDecision_enqueue queued)))

/-! ### RELEASE, MARK_CLEAN, CANCEL, RENEW, MAIL -/

theorem State.releaseOp_tableKept (s : State) (o : Origin) (n : LockId) : (s.releaseOp o n).TableKept s := by
  unfold State.releaseOp
  split
  · exact s.answer_tableKept ..
  · split
    · split
      · exact (State.answer_tableKept ..).trans (.of_parts rfl rfl)
      · exact s.answer_tableKept ..
    · next h found =>
      obtain ⟨-, -, mem⟩ := State.findHold_some found
      split
      · next awaiting => exact (State.answer_tableKept ..).trans (State.makeDead_tableKept found awaiting.1)
      · exact (State.answer_tableKept ..).trans
          ((State.grantEval_tableKept _ n).trans (State.removeHold_tableKept (.inl rfl) mem))

/-- A clean declaration keeps the lock's only, EXCLUSIVE holder (R9). -/
theorem State.setLock_held_tableKept {s : State} {n : LockId} (suspect : (s.lock n).state = .suspect) :
    (s.setLock n { s.lock n with state := .held, cleanPending := false }).TableKept s := by
  refine .of_lock (n := n) ⟨by simp, fun sound => ?_⟩ (fun m hm => by simp [hm]) fun m _ => rfl
  obtain ⟨agree, -, -, bound⟩ := sound
  rw [suspect] at agree
  exact ⟨by simpa [holdersAgree] using agree, by simp, by simp, by simpa using bound⟩

theorem State.markCleanOp_tableKept (s : State) (o : Origin) (n : LockId) : (s.markCleanOp o n).TableKept s := by
  unfold State.markCleanOp
  split
  · exact s.answer_tableKept ..
  · split
    · split <;> exact s.answer_tableKept ..
    · split
      · next suspect => exact (State.answer_tableKept ..).trans (State.setLock_held_tableKept suspect)
      · exact s.answer_tableKept ..

theorem State.cancelOp_tableKept (s : State) (o : Origin) : (s.cancelOp o).TableKept s := by
  unfold State.cancelOp
  split
  · exact s.answer_tableKept ..
  · exact s.answer_tableKept ..
  · split
    · exact s.answer_tableKept ..
    · next w _ =>
      have ready : ((s.cancelWait o.client w.lock).setClientState o.client .ready).TableKept
          (s.cancelWait o.client w.lock) := .of_parts rfl rfl
      exact (State.grantEval_tableKept _ w.lock).trans ((State.answer_tableKept ..).trans
        (ready.trans (s.cancelWait_waitEnded o.client w.lock).tableKept))
  · split <;> exact s.answer_tableKept ..

theorem State.renewOp_tableKept (s : State) (o : Origin) (n : LockId) : (s.renewOp o n).TableKept s := by
  unfold State.renewOp
  split
  · exact s.answer_tableKept ..
  · split
    · split <;> exact s.answer_tableKept ..
    · split
      · exact s.answer_tableKept ..
      · exact State.TableKept.trans (State.answer_tableKept ..)
          (s.updateHold_tableKept o.client n (by intro; rfl) (by intro; rfl))

theorem State.mailOp_tableKept (s : State) (o : Origin) (target : AgentId) (payload : BitVec 16) :
    (s.mailOp o target payload).TableKept s := by
  unfold State.mailOp
  split_ifs
  case neg => exact (State.answer_tableKept ..).trans (.of_parts rfl rfl)
  all_goals exact s.answer_tableKept ..

/-! ### Expiries (R84, R87) -/

theorem State.passUnreserved_tableKept (s : State) (x : Hold) (revoked : Bool) :
    (s.passUnreserved x.client (x.notice revoked)).TableKept s := by
  obtain ⟨-, -, frame⟩ := s.passUnreserved_noticePassed x revoked
  exact .of_parts (by rw [frame]) (by rw [frame])

theorem State.warnHold_tableKept (s : State) (x : Hold) (countdown : Countdown) (phase : Phase) :
    (s.warnHold x countdown phase).TableKept s :=
  State.TableKept.trans (State.updateHold_tableKept _ x.client x.lock (by intro; rfl) (by intro; rfl))
    (s.passUnreserved_tableKept x false)

theorem State.revoke_tableKept {s : State} {x : Hold} (hx : PoolRecord.hold x ∈ s.pool) :
    (s.revoke x).TableKept s := by
  have removed := State.removeHold_tableKept (alone := .orphaned) (.inr rfl) hx
  have listed : ((s.removeHold x .orphaned).setRevoked x.client x.lock true).TableKept (s.removeHold x .orphaned) :=
    .of_parts rfl rfl
  have passed := ((s.removeHold x .orphaned).setRevoked x.client x.lock true).passUnreserved_tableKept x true
  exact (State.grantEval_tableKept _ x.lock).trans (passed.trans (listed.trans removed))

theorem State.expireHold_tableKept {s : State} {x : Hold} (hx : PoolRecord.hold x ∈ s.pool) :
    (s.expireHold x).TableKept s := by
  unfold State.expireHold
  split
  · exact State.revoke_tableKept hx
  · split
    · exact s.warnHold_tableKept ..
    · exact State.revoke_tableKept hx
    · split
      · exact State.revoke_tableKept hx
      · exact s.warnHold_tableKept ..

theorem State.holdExpiryOp_tableKept (s : State) (c : ClientId) (n : LockId) :
    (s.holdExpiryOp c n).TableKept s := by
  unfold State.holdExpiryOp
  split
  · exact .refl s
  · next x found =>
    obtain ⟨-, -, mem⟩ := State.findHold_some found
    split
    · exact State.expireHold_tableKept mem
    · exact .refl s

theorem State.waitExpiryOp_tableKept (s : State) (c : ClientId) : (s.waitExpiryOp c).TableKept s := by
  unfold State.waitExpiryOp
  split
  · exact .refl s
  · split
    · exact (State.grantEval_tableKept _ _).trans (s.endWaitReported_waitEnded c _ .expired .expired).tableKept
    · exact .refl s

/-! ### Detach requests and jobs (R113 to R123) -/

theorem State.Attached.tableKept {s t : State} {a : AgentId} (h : t.Attached s a) : t.TableKept s := by
  obtain ⟨-, -, -, frame⟩ := h
  exact .of_parts (by rw [frame]) (by rw [frame])

theorem State.detachRequest_tableKept (s : State) (a : AgentId) (named : SlotSet) (scope : Scope) :
    (s.detachRequest a named scope).TableKept s := by
  obtain ⟨set, u, -, ⟨-, -, -, -, made⟩, placed, -⟩ := s.detachRequest_requested a named scope
  have detaching : u.TableKept s := .of_parts (by rw [made]) (by rw [made])
  have placing : (s.detachRequest a named scope).TableKept ((s.waitLocks a set).foldl State.grantEval u) :=
    .of_parts (by rw [placed]) (by rw [placed])
  exact placing.trans ((State.TableKept.foldl State.grantEval_tableKept _ u).trans detaching)

theorem State.endJob_tableKept (s : State) : s.endJob.TableKept s := by
  obtain ⟨frame, -⟩ := s.endJob_jobEnded
  exact .of_parts (by rw [frame]) (by rw [frame])

theorem State.waitStepOp_tableKept (s : State) : s.waitStepOp.TableKept s := by
  unfold State.waitStepOp
  split
  · next j sl _ =>
    have reclaimed : (s.reclaimWait (clientOf j.agent sl)).TableKept s := by
      unfold State.reclaimWait
      split
      · exact .refl s
      · exact (State.grantEval_tableKept _ _).trans (s.cancelWait_waitEnded _ _).tableKept
    exact reclaimed.congr rfl rfl
  · exact .refl s

theorem State.holdStepOp_tableKept (s : State) : s.holdStepOp.TableKept s := by
  unfold State.holdStepOp
  split
  · split
    · exact .of_parts rfl rfl
    · next x newest =>
      obtain ⟨mem, -⟩ := (s.mem_heldList_iff _ x).1 (List.mem_of_getLast? newest)
      exact (State.grantEval_tableKept _ x.lock).trans (State.removeHold_tableKept (.inr rfl) mem)
  · exact .refl s

theorem State.flushStepOp_tableKept (s : State) : s.flushStepOp.TableKept s := by
  unfold State.flushStepOp
  split
  · exact .of_parts rfl rfl
  · exact .refl s

theorem State.endClientJob_tableKept (s : State) (j : Job) : (s.endClientJob j).TableKept s := by
  unfold State.endClientJob
  split
  · exact State.TableKept.foldl (by intros; exact .of_parts rfl rfl) _ s
  · exact .of_parts rfl rfl
  · exact .refl s

theorem State.clientJobFinalOp_tableKept (s : State) : s.clientJobFinalOp.TableKept s := by
  unfold State.clientJobFinalOp
  split
  · next j _ =>
    split
    · exact (State.endJob_tableKept _).trans (s.endClientJob_tableKept j)
    · exact .refl s
  · exact .refl s

theorem State.endAgentJob_tableKept (s : State) (a : AgentId) : (s.endAgentJob a).TableKept s := by
  have off : (allSlots.foldl (fun s sl => s.turnOffClient (clientOf a sl)) s).TableKept s :=
    State.TableKept.foldl (by intros; exact .of_parts rfl rfl) _ s
  have detached := fun u : State =>
    show ((u.flushAgent a).setAttach a .detached).TableKept u from .of_parts rfl rfl
  unfold State.endAgentJob
  dsimp only
  split
  · exact (State.attachAgent_attached _ a).tableKept.trans ((detached _).trans off)
  · exact (detached _).trans off

theorem State.agentJobFinalOp_tableKept (s : State) : s.agentJobFinalOp.TableKept s := by
  unfold State.agentJobFinalOp
  split
  · next j _ =>
    split
    · exact (State.endJob_tableKept _).trans (s.endAgentJob_tableKept j.agent)
    · exact .refl s
  · exact .refl s

theorem State.assertLine_tableKept (s : State) (a : AgentId) : (s.assertLine a).TableKept s := by
  have level : (s.setLevel a true).TableKept s := .of_parts rfl rfl
  unfold State.assertLine
  split
  · exact .refl s
  · dsimp only
    split
    · exact (State.detachRequest_tableKept _ a everySlot .agent).trans level
    · exact level

theorem State.deassertLine_tableKept (s : State) (a : AgentId) : (s.deassertLine a).TableKept s := by
  have level : (s.setLevel a false).TableKept s := .of_parts rfl rfl
  unfold State.deassertLine
  split
  · exact .refl s
  · dsimp only
    split
    · exact (State.attachAgent_attached _ a).tableKept.trans level
    · exact level

/-! ### The sweep (R75) -/

theorem State.sweepStepOp_tableKept (s : State) : s.sweepStepOp.TableKept s := by
  have swept : (s.sweepLock s.su.sweep.position).TableKept s := by
    unfold State.sweepLock
    split
    · exact .refl s
    · exact s.grantEval_tableKept _
  unfold State.sweepStepOp
  split
  · dsimp only
    split
    · exact (swept.setSu _).setSu _
    · exact swept.setSu _
  · exact .refl s

/-! ### Lock commands of the supervisor (R2, R11, R12) and the resets (R1, R14) -/

theorem exec_online_tableKept (n : LockId) (s : State) : ∃ t, exec (.online n) s = .next t ∧ t.TableKept s :=
  ⟨_, exec_online n s, (State.setLock_ite_tableKept fun h =>
    State.setLockState_tableKept (.inl (.inl h)) (.inr (.inr (.inr h))) (.inl rfl)).setSu _⟩

theorem exec_offline_tableKept (n : LockId) (s : State) : ∃ t, exec (.offline n) s = .next t ∧ t.TableKept s :=
  ⟨_, exec_offline n s, (State.setLock_ite_tableKept fun ⟨drained, empty⟩ =>
    State.setLockState_tableKept (.inr empty) (drained.imp_right fun h => h.imp_right .inl) (.inr rfl)).setSu _⟩

theorem exec_restore_tableKept (n : LockId) (s : State) : ∃ t, exec (.restore n) s = .next t ∧ t.TableKept s :=
  ⟨_, exec_restore n s, (State.setLock_ite_tableKept fun h =>
    State.setLockState_tableKept (.inl (.inr h)) (.inr (.inr (.inl h))) (.inl rfl)).setSu _⟩

theorem LockState.afterSoftReset_unheld (st : LockState) : st.afterSoftReset.unheld := by
  cases st <;> simp [LockState.afterSoftReset, LockState.unheld]

theorem State.softReset_lock (s : State) (n : LockId) : s.softReset.lock n = (s.lock n).softReset := by
  simp [State.softReset]

theorem State.softReset_holders (s : State) (n : LockId) : s.softReset.holders n = [] := by
  rw [State.holders_eq]
  simp [State.softReset]

theorem State.softReset_tableKept (s : State) : s.softReset.TableKept s := by
  refine ⟨fun n => ⟨by rw [State.softReset_lock]; rfl, fun _ => ?_⟩⟩
  refine State.lockSound_of_no_holders ?_ (s.softReset_holders n) ?_ ?_ ?_ <;> rw [State.softReset_lock]
  · exact (s.lock n).state.afterSoftReset_unheld
  · rfl
  · exact fun _ => rfl
  · exact Nat.zero_le _

theorem State.powerOn_lock (s : State) (levels : BitVec 8) (n : LockId) :
    (s.powerOn levels).lock n = LockRecord.powerOn := by
  simp [State.powerOn, State.lock, State.reset, Vector.get_eq_getElem]

theorem State.powerOn_locksSound (s : State) (levels : BitVec 8) : (s.powerOn levels).LocksSound := by
  intro n
  have holders : (s.powerOn levels).holders n = [] := by
    rw [State.holders_eq]
    simp [State.powerOn, State.reset]
  refine State.lockSound_of_no_holders ?_ holders ?_ ?_ ?_ <;> rw [State.powerOn_lock]
  · exact .inr (.inr (.inr rfl))
  · rfl
  · exact fun _ => rfl
  · exact Nat.zero_le _

/-- The laws of the lock table do not speak of the configuration. -/
theorem State.setLock_config_locksSound {s : State} (n : LockId) (config : LockConfig) (h : s.LocksSound) :
    (s.setLock n { s.lock n with config := config }).LocksSound := by
  intro m
  by_cases hm : m = n
  · subst hm
    exact (h m).of_queue_le (by simp) (by simp) rfl (by simp)
  · exact (h m).of_queue_le (by simp [hm]) (by simp [hm]) rfl (by simp [hm])

theorem exec_setcfg_locksSound (n : LockId) {s : State} (h : s.LocksSound) :
    ∃ t, exec (.setcfg n) s = .next t ∧ t.LocksSound := by
  refine ⟨_, exec_setcfg n s, State.TableKept.locksSound (.of_parts rfl rfl) ?_⟩
  split
  · exact State.setLock_config_locksSound n _ h
  · rw [State.setLock_self]
    exact h

/-! ### Every command -/

/-- The commands that write configurations into lock records. -/
def writesConfig : Instr → Bool
  | .setcfg _ => true
  | .powerOnReset _ => true
  | _ => false

/-- A register write touches no lock record and no hold. -/
theorem State.writePlain_tableKept (s : State) (r : PlainReg) (w : Word) : (s.writePlain r w).TableKept s := by
  cases r <;> exact .of_parts rfl rfl

/-- A claim read leaves its result in the read data, which is no part of the lock table. -/
theorem exec_claimRead_tableKept (a : AgentId) (n : LockId) (s : State) :
    ∃ t, exec (.claimRead a n) s = .next t ∧ t.TableKept s :=
  ⟨_, rfl, (s.acquireOp_tableKept (Origin.claimRead a (s.window a) n) n .exclusive .tryOnce
    (s.window a).priority).congr rfl rfl⟩

theorem exec_accessMisuse_tableKept (access : BusAccess) (s : State) :
    ∃ t, exec (.accessMisuse access) s = .next t ∧ t.TableKept s := by
  show ∃ t, execAccessMisuse access s = .next t ∧ t.TableKept s
  unfold execAccessMisuse
  cases access.write <;> exact ⟨_, rfl, .of_parts rfl rfl⟩

theorem exec_detachClient_tableKept (number : Fin 64) (s : State) :
    ∃ t, exec (.detachClient number) s = .next t ∧ t.TableKept s := by
  refine ⟨_, rfl, ?_⟩
  split
  · exact (s.detachRequest_tableKept (agentOf (clientOfNumber number)) (onlySlot (slotOf (clientOfNumber number)))
      .client).setSu _
  · exact .of_parts rfl rfl

theorem exec_detachAgent_tableKept (number : Fin 64) (s : State) :
    ∃ t, exec (.detachAgent number) s = .next t ∧ t.TableKept s := by
  refine ⟨_, rfl, ?_⟩
  split
  · exact (s.detachRequest_tableKept (agentOfNumber number) everySlot .agent).setSu _
  · exact .of_parts rfl rfl
  · exact .of_parts rfl rfl

theorem exec_attach_tableKept (number : Fin 64) (s : State) :
    ∃ t, exec (.attach number) s = .next t ∧ t.TableKept s := by
  refine ⟨_, rfl, ?_⟩
  split
  · exact .of_parts rfl rfl
  · exact .of_parts rfl rfl
  · split
    · exact .of_parts rfl rfl
    · exact (s.attachAgent_attached (agentOfNumber number)).tableKept.setSu _

theorem exec_tick_tableKept (s : State) : ∃ t, exec .tick s = .next t ∧ t.TableKept s := by
  refine ⟨_, rfl, ?_⟩
  split
  · exact s.tick_tableKept
  · exact .refl s

/-- Every command but SETCFG and the power-on reset keeps the lock table. -/
theorem exec_tableKept {i : Instr} (hi : writesConfig i = false) (s : State) :
    ∃ t, exec i s = .next t ∧ t.TableKept s := by
  cases i
  case setcfg => cases hi
  case powerOnReset => cases hi
  case acquire => exact ⟨_, rfl, s.acquireOp_tableKept ..⟩
  case release => exact ⟨_, rfl, s.releaseOp_tableKept ..⟩
  case cancel => exact ⟨_, rfl, s.cancelOp_tableKept _⟩
  case renew => exact ⟨_, rfl, s.renewOp_tableKept ..⟩
  case markClean => exact ⟨_, rfl, s.markCleanOp_tableKept ..⟩
  case mail => exact ⟨_, rfl, s.mailOp_tableKept ..⟩
  case badOpcode => exact ⟨_, rfl, s.answer_tableKept ..⟩
  case claimRead a n => exact exec_claimRead_tableKept a n s
  case claimWrite => exact ⟨_, rfl, s.releaseOp_tableKept ..⟩
  case accessMisuse access => exact exec_accessMisuse_tableKept access s
  case registerWrite => exact ⟨_, rfl, s.writePlain_tableKept ..⟩
  case online n => exact exec_online_tableKept n s
  case offline n => exact exec_offline_tableKept n s
  case restore n => exact exec_restore_tableKept n s
  case detachClient number => exact exec_detachClient_tableKept number s
  case detachAgent number => exact exec_detachAgent_tableKept number s
  case attach number => exact exec_attach_tableKept number s
  case softReset => exact ⟨_, rfl, s.softReset_tableKept⟩
  case resetAssertion => exact ⟨_, rfl, s.assertLine_tableKept _⟩
  case resetDeassertion => exact ⟨_, rfl, s.deassertLine_tableKept _⟩
  case tick => exact exec_tick_tableKept s
  case holdExpiry => exact ⟨_, rfl, s.holdExpiryOp_tableKept ..⟩
  case waitExpiry => exact ⟨_, rfl, s.waitExpiryOp_tableKept _⟩
  case sweepStep => exact ⟨_, rfl, s.sweepStepOp_tableKept⟩
  case waitStep => exact ⟨_, rfl, s.waitStepOp_tableKept⟩
  case holdStep => exact ⟨_, rfl, s.holdStepOp_tableKept⟩
  case flushStep => exact ⟨_, rfl, s.flushStepOp_tableKept⟩
  case clientJobFinalStep => exact ⟨_, rfl, s.clientJobFinalOp_tableKept⟩
  case agentJobFinalStep => exact ⟨_, rfl, s.agentJobFinalOp_tableKept⟩
  all_goals exact ⟨_, rfl, .of_parts rfl rfl⟩

/-- Every command keeps the laws of the lock table. -/
theorem exec_locksSound (i : Instr) {s : State} (h : s.LocksSound) : ∃ t, exec i s = .next t ∧ t.LocksSound := by
  cases hi : writesConfig i
  case false =>
    obtain ⟨t, ht, kept⟩ := exec_tableKept hi s
    exact ⟨t, ht, kept.locksSound h⟩
  case true =>
    cases i <;> cases hi
    case setcfg n => exact exec_setcfg_locksSound n h
    case powerOnReset levels => exact ⟨_, rfl, s.powerOn_locksSound levels⟩

theorem State.clockPeriod_tableKept (s : State) : s.clockPeriod.TableKept s := by
  unfold State.clockPeriod
  split
  · split
    · exact s.tick_tableKept
    · exact .of_parts rfl rfl
  · exact .refl s

/-- Settles O45: every command but SETCFG and the power-on reset keeps every configuration, and SETCFG writes
that of its own lock alone, and only while it is OFFLINE. -/
theorem configurationChangesOnlyBySetcfg : Obligations.ConfigurationChangesOnlyBySetcfg := by
  intro i s t n ht changed
  cases hi : writesConfig i
  case false =>
    obtain ⟨u, hu, kept⟩ := exec_tableKept hi s
    obtain rfl : u = t := Host.Outcome.next.inj (hu.symm.trans ht)
    exact absurd (kept.config n) changed
  case true =>
    cases i <;> cases hi
    case powerOnReset levels => exact .inr ⟨levels, rfl⟩
    case setcfg m =>
      obtain rfl := Host.Outcome.next.inj ((exec_setcfg m s).symm.trans ht)
      rw [State.setSResult_eq, State.setSu_lock, State.setLock_lock] at changed
      by_cases hn : n = m
      · subst hn
        by_cases offline : (s.lock n).state = .offline
        · exact .inl ⟨rfl, offline⟩
        · simp [offline] at changed
      · simp [hn] at changed

/-- Settles O48: every command keeps the laws of the lock table, and so does an idle clock period. -/
theorem lockTableLawsAreKept : Obligations.LockTableLawsAreKept := by
  intro s t h ht
  unfold step at ht
  split at ht
  · obtain rfl := Host.Outcome.next.inj ht
    exact s.clockPeriod_tableKept.locksSound h
  · next i rest _ =>
    have taken : State.LocksSound { s with pending := rest } :=
      State.TableKept.locksSound (.of_parts rfl rfl) h
    obtain ⟨u, hu, sound⟩ := exec_locksSound i taken
    obtain rfl : u = t := Host.Outcome.next.inj (hu.symm.trans ht)
    exact sound

end Sys2Proof.Machine
end

section
/-! The laws of clients, waits and holds (R20 to R22, R25, R29, R31, R59, R60, R96) taken apart: the laws of the
waits, the bound of the pool, and for each client a law of its context and the locks it holds alone. -/

namespace Sys2Proof.Machine

/-! ### The locks a client holds -/

/-- The locks a client holds, oldest hold first (R22). -/
def State.heldLocks (s : State) (c : ClientId) : List LockId :=
  (s.heldList c).map Hold.lock

theorem State.heldLocks_eq (s : State) (c : ClientId) :
    s.heldLocks c = (((s.pool.filterMap PoolRecord.hold?).filter fun h => h.client == c).map Hold.lock) := rfl

theorem State.heldLocks_of_pool {s t : State} (h : t.pool = s.pool) (c : ClientId) :
    t.heldLocks c = s.heldLocks c := by
  rw [State.heldLocks_eq, State.heldLocks_eq, h]

theorem State.heldLocks_eq_nil_iff (s : State) (c : ClientId) : s.heldLocks c = [] ↔ s.heldList c = [] :=
  List.map_eq_nil_iff

theorem State.mem_heldLocks_iff (s : State) (c : ClientId) (n : LockId) :
    n ∈ s.heldLocks c ↔ (s.findHold c n).isSome = true := by
  rw [s.findHold_isSome_iff]
  exact List.mem_map

theorem State.heldLocks_of_reservation {s t : State} {d : ClientId} {m : LockId}
    (h : t.pool = s.pool ++ [.reservation d m]) (c : ClientId) : t.heldLocks c = s.heldLocks c := by
  rw [State.heldLocks_eq, State.heldLocks_eq, h, List.filterMap_append]
  simp

theorem State.heldLocks_of_erase_reservation {s t : State} {d : ClientId} {m : LockId}
    (h : t.pool = s.pool.erase (.reservation d m)) (c : ClientId) : t.heldLocks c = s.heldLocks c := by
  rw [State.heldLocks_eq, State.heldLocks_eq, h, holds_erase_reservation]

/-- A new hold joins the held list of its client, as the newest, and of no other. -/
theorem State.heldLocks_of_append {s t : State} {x : Hold} (h : t.pool = s.pool ++ [.hold x]) (c : ClientId) :
    t.heldLocks c = if c = x.client then s.heldLocks c ++ [x.lock] else s.heldLocks c := by
  rw [State.heldLocks_eq, State.heldLocks_eq, h, List.filterMap_append, List.filter_append]
  by_cases hx : c = x.client
  · simp [hx]
  · have hx' : x.client ≠ c := fun e => hx e.symm
    simp [hx, hx']

theorem State.heldLocks_sublist {s t : State} (h : t.pool.Sublist s.pool) (c : ClientId) :
    (t.heldLocks c).Sublist (s.heldLocks c) :=
  ((h.filterMap _).filter _).map _

/-- A client that holds no lock twice does not hold one whose hold has left the pool. -/
theorem State.not_mem_heldLocks_of_erase {s t : State} {x : Hold} (mem : PoolRecord.hold x ∈ s.pool)
    (nd : (s.heldLocks x.client).Nodup) (h : t.pool = s.pool.erase (.hold x)) :
    x.lock ∉ t.heldLocks x.client := by
  have hx : x ∈ s.heldList x.client := (s.mem_heldList_iff x.client x).2 ⟨mem, rfl⟩
  have nodup : (s.heldList x.client).Nodup := .of_map _ nd
  have list : t.heldList x.client = (s.heldList x.client).erase x := by
    unfold State.heldList State.holds
    rw [h, holds_erase, filter_erase_of_pos _ x (by simp)]
  rw [State.heldLocks, list]
  intro held
  obtain ⟨y, hy, lock⟩ := List.mem_map.1 held
  obtain ⟨ne, hy⟩ := nodup.mem_erase_iff.1 hy
  exact ne (List.inj_on_of_nodup_map nd hy hx lock)

/-- A change of records in place that keeps the client and lock of each. -/
def KeepsOwners (f : PoolRecord → PoolRecord) : Prop :=
  (∀ c n, f (.reservation c n) = .reservation c n)
    ∧ ∀ x, ∃ y, f (.hold x) = .hold y ∧ y.client = x.client ∧ y.lock = x.lock

theorem State.heldLocks_of_map {s t : State} {f : PoolRecord → PoolRecord} (hf : KeepsOwners f)
    (h : t.pool = s.pool.map f) (c : ClientId) : t.heldLocks c = s.heldLocks c := by
  rw [State.heldLocks_eq, State.heldLocks_eq, h]
  obtain ⟨hr, hh⟩ := hf
  induction s.pool with
  | nil => rfl
  | cons r p ih =>
    cases r with
    | reservation d m => simpa [hr] using ih
    | hold x =>
      obtain ⟨y, hy, client, lock⟩ := hh x
      by_cases hx : x.client = c <;> simpa [hy, client, lock, hx, List.filter_cons] using ih

theorem count_reservation_map {f : PoolRecord → PoolRecord} (hf : KeepsOwners f) (p : List PoolRecord)
    (c : ClientId) (n : LockId) : (p.map f).count (.reservation c n) = p.count (.reservation c n) := by
  obtain ⟨hr, hh⟩ := hf
  induction p with
  | nil => rfl
  | cons r p ih =>
    cases r with
    | reservation d m => simp [hr, List.count_cons, ih]
    | hold x =>
      obtain ⟨y, hy, -⟩ := hh x
      simp [hy, ih]

/-! ### The law of one client -/

/-- The laws of a client's context and the locks it holds: its state agrees with its wait and holds (R20), it
has at most 8 holds counting the one its wait may become (R22), no two on one lock, and none on a lock
in its revoked set (R25) or waited for. -/
structure Client.Lawful (r : Client) (held : List LockId) : Prop where
  waiting : r.state = .waiting → r.wait.isSome = true
  ready : r.state = .ready → r.wait = none
  off : r.state = .off → r.wait = none ∧ held = []
  room : held.length + (if r.wait.isSome then 1 else 0) ≤ Config.holdsPerClient
  nodup : held.Nodup
  apart : ∀ n ∈ held, r.revoked.get n = false ∧ r.wait.map WaitRecord.lock ≠ some n

/-- Where a wait record stands in the queues: its lock and its priority. -/
def WaitRecord.place (w : WaitRecord) : LockId × Priority :=
  (w.lock, w.priority)

theorem map_lock_of_place {x y : Option WaitRecord} (h : x.map WaitRecord.place = y.map WaitRecord.place) :
    x.map WaitRecord.lock = y.map WaitRecord.lock := by
  have e := congrArg (Option.map Prod.fst) h
  rwa [Option.map_map, Option.map_map] at e

theorem map_priority_of_place {x y : Option WaitRecord} (h : x.map WaitRecord.place = y.map WaitRecord.place) :
    x.map WaitRecord.priority = y.map WaitRecord.priority := by
  have e := congrArg (Option.map Prod.snd) h
  rwa [Option.map_map, Option.map_map] at e

theorem isSome_of_place {x y : Option WaitRecord} (h : x.map WaitRecord.place = y.map WaitRecord.place) :
    x.isSome = y.isSome := by
  simpa using congrArg Option.isSome h

/-- `r'` is `r` in all that the laws of clients read. -/
structure Client.Same (r' r : Client) : Prop where
  state : r'.state = r.state
  place : r'.wait.map WaitRecord.place = r.wait.map WaitRecord.place
  revoked : r'.revoked = r.revoked

theorem Client.Same.refl (r : Client) : r.Same r := ⟨rfl, rfl, rfl⟩

theorem Client.Lawful.congr {r r' : Client} {held : List LockId} (h : r.Lawful held) (same : r'.Same r) :
    r'.Lawful held := by
  obtain ⟨state, place, revoked⟩ := same
  have some := isSome_of_place place
  have none : r.wait = none → r'.wait = none := fun e => by simpa [e] using some
  refine ⟨?_, ?_, ?_, ?_, h.nodup, ?_⟩
  · rw [state, some]
    exact h.waiting
  · rw [state]
    exact fun e => none (h.ready e)
  · rw [state]
    exact fun e => (h.off e).imp_left none
  · rw [some]
    exact h.room
  · rw [revoked, map_lock_of_place place]
    exact h.apart

theorem Client.Lawful.of_sublist {r : Client} {held held' : List LockId} (h : r.Lawful held)
    (sub : held'.Sublist held) : r.Lawful held' := by
  refine ⟨h.waiting, h.ready, fun e => ?_, ?_, h.nodup.sublist sub, fun n hn => h.apart n (sub.subset hn)⟩
  · obtain ⟨wait, none⟩ := h.off e
    exact ⟨wait, List.sublist_nil.1 (none ▸ sub)⟩
  · exact (Nat.add_le_add_right sub.length_le _).trans h.room

/-- A client whose wait is over is READY, or DETACHING. -/
theorem Client.Lawful.of_wait_ended {r r' : Client} {held : List LockId} (h : r.Lawful held)
    (state : r'.state = .ready ∨ r'.state = .detaching) (wait : r'.wait = none) (revoked : r'.revoked = r.revoked) :
    r'.Lawful held := by
  refine ⟨fun e => ?_, fun _ => wait, fun e => ?_, ?_, h.nodup, fun n hn => ?_⟩
  · simp [e] at state
  · simp [e] at state
  · rw [wait]
    exact (Nat.le_add_right _ _).trans h.room
  · rw [wait, revoked]
    exact ⟨(h.apart n hn).1, by simp⟩

/-- A client with no wait gains a hold on a lock it does not hold (R6, R42, R46). -/
theorem Client.Lawful.of_hold {r : Client} {held : List LockId} {n : LockId} (h : r.Lawful held)
    (state : r.state ≠ .off) (wait : r.wait = none) (new : n ∉ held) (room : held.length < Config.holdsPerClient) :
    Client.Lawful { r with revoked := r.revoked.set n false } (held ++ [n]) := by
  refine ⟨h.waiting, h.ready, fun e => absurd e state, ?_, ?_, fun m hm => ⟨?_, by simp [wait]⟩⟩
  · simpa [wait] using room
  · exact List.nodup_append'.2 ⟨h.nodup, List.nodup_singleton n, by simpa using new⟩
  · dsimp only
    rw [vector_get_set]
    split
    · rfl
    · next ne =>
      have held : m ∈ held := by simpa [ne] using hm
      exact (h.apart m held).1

/-- A lock that a client does not hold joins or leaves its revoked set, or any lock leaves it (R25). -/
theorem Client.Lawful.of_revoked {r : Client} {held : List LockId} {n : LockId} {b : Bool} (h : r.Lawful held)
    (new : n ∈ held → b = false) : Client.Lawful { r with revoked := r.revoked.set n b } held := by
  refine ⟨h.waiting, h.ready, h.off, h.room, h.nodup, fun m hm => ⟨?_, (h.apart m hm).2⟩⟩
  dsimp only
  rw [vector_get_set]
  split
  · next e => exact new (e ▸ hm)
  · exact (h.apart m hm).1

/-- A client becomes DETACHING, whatever it waits for and holds (R114). -/
theorem Client.Lawful.of_detaching {r : Client} {held : List LockId} (h : r.Lawful held) :
    Client.Lawful { r with state := .detaching } held :=
  ⟨by simp, by simp, by simp, h.room, h.nodup, h.apart⟩

/-- A client that waits for nothing becomes READY, whatever it holds (R113). -/
theorem Client.Lawful.of_ready {r : Client} {held : List LockId} (h : r.Lawful held) (wait : r.wait = none) :
    Client.Lawful { r with state := .ready } held :=
  ⟨by simp, fun _ => wait, by simp, h.room, h.nodup, h.apart⟩

/-- A client that has neither a wait nor a hold is lawful in every state but WAITING. -/
theorem Client.lawful_of_stripped {r : Client} (state : r.state ≠ .waiting) (wait : r.wait = none) : r.Lawful [] :=
  ⟨fun e => absurd e state, fun _ => wait, fun _ => ⟨wait, rfl⟩, by simp [wait], List.nodup_nil, by simp⟩

/-! ### The laws together -/

/-- The laws of waits, clients and holds: those of the waits, the bound of the pool (R31), and the law of every
client. -/
structure State.Agreed (s : State) : Prop where
  waits : s.WaitsSound
  pool : s.pool.length ≤ Config.poolSize
  client : ∀ c, (s.client c).Lawful (s.heldLocks c)

theorem State.agreed_iff (s : State) : s.Agreed ↔ s.WaitsSound ∧ s.ClientsSound ∧ s.PoolSound := by
  constructor
  · rintro ⟨waits, pool, client⟩
    refine ⟨waits, fun c => ⟨(client c).waiting, (client c).ready, fun off => ?_⟩, pool, fun c => ?_,
      fun c => (client c).nodup, fun c n held => (client c).apart n ((s.mem_heldLocks_iff c n).2 held)⟩
    · exact ((client c).off off).imp_right (s.heldLocks_eq_nil_iff c).1
    · simpa [State.heldLocks] using (client c).room
  · rintro ⟨waits, clients, pool, room, nodup, apart⟩
    refine ⟨waits, pool, fun c => ?_⟩
    obtain ⟨waiting, ready, off⟩ := clients c
    refine ⟨waiting, ready, fun e => (off e).imp_right (s.heldLocks_eq_nil_iff c).2, ?_, nodup c,
      fun n held => apart c n ((s.mem_heldLocks_iff c n).1 held)⟩
    simpa [State.heldLocks] using room c

theorem State.Sound.agreed {s : State} (h : s.Sound) : s.Agreed :=
  s.agreed_iff.2 ⟨h.waits, h.clients, h.pool⟩

/-! ### What keeps them -/

/-- `t` has the waits of `s`: the queues, the reservations, the places of the wait records and the reserved
counts. -/
structure State.WaitsKept (t s : State) : Prop where
  queue : ∀ n, (t.lock n).queue = (s.lock n).queue
  reservation : ∀ c n, t.pool.count (.reservation c n) = s.pool.count (.reservation c n)
  place : ∀ c, (t.client c).wait.map WaitRecord.place = (s.client c).wait.map WaitRecord.place
  reserved : ∀ a, (t.nu a).reserved = (s.nu a).reserved

theorem State.waitsOn_of_place {s t : State} {c : ClientId}
    (h : (t.client c).wait.map WaitRecord.place = (s.client c).wait.map WaitRecord.place) (n : LockId) :
    t.WaitsOn c n ↔ s.WaitsOn c n := by
  unfold State.WaitsOn
  rw [map_lock_of_place h]

theorem State.waitPriority_eq (s : State) (c : ClientId) :
    s.waitPriority c = ((s.client c).wait.map WaitRecord.priority).getD 15 := by
  unfold State.waitPriority
  cases (s.client c).wait <;> rfl

theorem State.waitPriority_of_place {s t : State} {c : ClientId}
    (h : (t.client c).wait.map WaitRecord.place = (s.client c).wait.map WaitRecord.place) :
    t.waitPriority c = s.waitPriority c := by
  rw [State.waitPriority_eq, State.waitPriority_eq, map_priority_of_place h]

theorem State.WaitsKept.waitsSound {s t : State} (h : t.WaitsKept s) (sound : s.WaitsSound) : t.WaitsSound := by
  obtain ⟨queue, reservation, place, reserved⟩ := h
  obtain ⟨agree, nodup, order, reservations, slots⟩ := sound
  refine ⟨fun n c => ?_, fun n => ?_, fun n => ?_, fun c n => ?_, fun a => ?_⟩
  · rw [queue, State.waitsOn_of_place (place c)]
    exact agree n c
  · rw [queue]
    exact nodup n
  · rw [queue]
    exact (order n).imp fun {c d} le => by
      rwa [State.waitPriority_of_place (place c), State.waitPriority_of_place (place d)]
  · rw [reservation, map_lock_of_place (place c)]
    exact reservations c n
  · rw [reserved, slots]
    simp only [State.waitCount, isSome_of_place (place _)]

/-- `t` is `s` in all that the laws of waits, clients and holds read. -/
structure State.BooksKept (t s : State) : Prop where
  queue : ∀ n, (t.lock n).queue = (s.lock n).queue
  reservation : ∀ c n, t.pool.count (.reservation c n) = s.pool.count (.reservation c n)
  length : t.pool.length = s.pool.length
  held : ∀ c, t.heldLocks c = s.heldLocks c
  client : ∀ c, (t.client c).Same (s.client c)
  reserved : ∀ a, (t.nu a).reserved = (s.nu a).reserved

theorem State.Agreed.of_books {s t : State} (h : s.Agreed) (kept : t.BooksKept s) : t.Agreed := by
  obtain ⟨queue, reservation, length, held, client, reserved⟩ := kept
  have waits : t.WaitsKept s := ⟨queue, reservation, fun c => (client c).place, reserved⟩
  refine ⟨waits.waitsSound h.waits, length ▸ h.pool, fun c => ?_⟩
  rw [held]
  exact (h.client c).congr (client c)

/-- A change of the lock records, the clients and the notice states that keeps what the laws read. -/
theorem State.BooksKept.of_parts {s t : State} (pool : t.pool = s.pool)
    (queue : ∀ n, (t.lock n).queue = (s.lock n).queue) (client : ∀ c, (t.client c).Same (s.client c))
    (reserved : ∀ a, (t.nu a).reserved = (s.nu a).reserved) : t.BooksKept s :=
  ⟨queue, fun c n => by rw [pool], by rw [pool], State.heldLocks_of_pool pool, client, reserved⟩

/-- A change of none of these parts. -/
theorem State.BooksKept.of_eq {s t : State} (locks : t.locks = s.locks) (pool : t.pool = s.pool)
    (clients : t.clients = s.clients) (notices : t.notices = s.notices) : t.BooksKept s := by
  refine .of_parts pool (fun n => ?_) (fun c => ?_) (fun a => ?_)
  · rw [State.lock, locks, State.lock]
  · rw [State.client, clients, State.client]
    exact .refl _
  · rw [State.nu, notices, State.nu]

theorem State.Agreed.of_eq {s t : State} (h : s.Agreed) (locks : t.locks = s.locks) (pool : t.pool = s.pool)
    (clients : t.clients = s.clients) (notices : t.notices = s.notices) : t.Agreed :=
  h.of_books (.of_eq locks pool clients notices)

end Sys2Proof.Machine
end

section
/-! What each move of a wait or a hold does to the laws of waits, clients and holds: a wait ends, a wait is
queued, a hold is created, a hold leaves the pool. -/

namespace Sys2Proof.Machine

/-! ### The number of waits of an agent (R96) -/

theorem allSlots_nodup : allSlots.Nodup := by decide

/-- A predicate that becomes true of one element of a list without repeats counts one more. -/
theorem countP_of_one {α : Type} [DecidableEq α] {l : List α} {x : α} {p q : α → Bool} (nd : l.Nodup) (hx : x ∈ l)
    (hp : p x = false) (hq : q x = true) (others : ∀ y, y ≠ x → q y = p y) : l.countP q = l.countP p + 1 := by
  have perm := List.perm_cons_erase hx
  have rest : (l.erase x).countP q = (l.erase x).countP p :=
    List.countP_congr fun y hy => by rw [others y (nd.mem_erase_iff.1 hy).1]
  rw [perm.countP_eq, perm.countP_eq p, List.countP_cons_of_pos hq, List.countP_cons_of_neg (by simp [hp]), rest]

/-- A client that waits in `t` and not in `s` counts one more for its agent in `t`. -/
theorem State.waitCount_succ {s t : State} {c : ClientId} (no : (s.client c).wait = none)
    (yes : (t.client c).wait.isSome = true) (others : ∀ d, d ≠ c → t.client d = s.client d) :
    t.waitCount (agentOf c) = s.waitCount (agentOf c) + 1 := by
  refine countP_of_one allSlots_nodup (allSlots_mem (slotOf c)) (by simp [no]) (by simpa using yes) fun sl ne => ?_
  rw [others]
  exact fun e => ne (by rw [← e, slotOf_clientOf])

/-- The count of the other agents is the same. -/
theorem State.waitCount_of_ne {s t : State} {c : ClientId} {a : AgentId} (ha : a ≠ agentOf c)
    (others : ∀ d, d ≠ c → t.client d = s.client d) : t.waitCount a = s.waitCount a := by
  unfold State.waitCount
  refine List.countP_congr fun sl _ => ?_
  rw [others]
  rintro rfl
  simp at ha

/-! ### A wait ends (R63) -/

theorem State.waitsOn_iff (s : State) (c : ClientId) (n : LockId) :
    s.WaitsOn c n ↔ ∃ w, (s.client c).wait = some w ∧ w.lock = n :=
  Option.map_eq_some_iff

/-- A client waits on one lock. -/
theorem State.WaitsOn.unique {s : State} {c : ClientId} {n m : LockId} (h : s.WaitsOn c n) (h' : s.WaitsOn c m) :
    n = m :=
  Option.some.inj (h.symm.trans h')

theorem State.waitPriority_of_client {s t : State} {c : ClientId} (h : t.client c = s.client c) :
    t.waitPriority c = s.waitPriority c :=
  State.waitPriority_of_place (by rw [h])

section
variable {s u : State} {c : ClientId} {n : LockId} {st : ClientState} {e : WaitEnd} {notice : Option Notice}

theorem State.WaitEnded.wait (h : u.WaitEnded s c n st e notice) : (u.client c).wait = none := by
  obtain ⟨client, -⟩ := h
  rw [client]

theorem State.WaitEnded.queue (h : u.WaitEnded s c n st e notice) (m : LockId) :
    (u.lock m).queue = if m = n then (s.lock n).queue.erase c else (s.lock m).queue := by
  obtain ⟨-, -, lock, locks, -⟩ := h
  split
  · next hm => rw [hm, lock]
  · next hm => rw [locks m hm]

/-- The queues keep their other entries, in order; the client stands in none. -/
theorem State.WaitEnded.queue_eq (h : u.WaitEnded s c n st e notice) (sound : s.WaitsSound) (waits : s.WaitsOn c n)
    (m : LockId) : (u.lock m).queue = (s.lock m).queue.erase c := by
  obtain ⟨agree, -⟩ := sound
  rw [h.queue]
  split
  · next hm => rw [hm]
  · next hm => rw [List.erase_of_not_mem fun hc => hm (((agree m c).1 hc).unique waits)]

theorem State.WaitEnded.waitsSound (h : u.WaitEnded s c n st e notice) (sound : s.WaitsSound)
    (waits : s.WaitsOn c n) : u.WaitsSound := by
  have queue := h.queue_eq sound waits
  have none := h.wait
  obtain ⟨-, others, -, -, pool, nu, nus, -⟩ := h
  obtain ⟨agree, nodup, order, reservation, reserved⟩ := sound
  have mem : ∀ m d, d ∈ (u.lock m).queue ↔ d ≠ c ∧ d ∈ (s.lock m).queue := fun m d => by
    rw [queue, (nodup m).mem_erase_iff]
  refine ⟨fun m d => ?_, fun m => ?_, fun m => ?_, fun d m => ?_, fun a => ?_⟩
  · rw [mem, agree]
    by_cases hd : d = c
    · simp [hd, State.WaitsOn, none]
    · simp [hd, State.WaitsOn, others d hd]
  · rw [queue]
    exact (nodup m).erase c
  · refine (queue m ▸ (order m).sublist List.erase_sublist).imp_of_mem fun {x y} hx hy le => ?_
    have keep : ∀ z ∈ (u.lock m).queue, u.waitPriority z = s.waitPriority z := fun z hz =>
      State.waitPriority_of_client (others z ((mem m z).1 hz).1)
    rwa [keep x (queue m ▸ hx), keep y (queue m ▸ hy)]
  · rw [pool, List.count_erase]
    by_cases hd : d = c
    · rw [hd, none, if_neg (c := Option.map _ Option.none = _) (by simp)]
      by_cases hm : m = n
      · rw [hm, (reservation c n).trans (if_pos waits), if_pos (by simp)]
      · rw [(reservation c m).trans (if_neg fun on => hm (State.WaitsOn.unique on waits)), Nat.zero_sub]
    · have ne : (PoolRecord.reservation c n == .reservation d m) = false := by
        simp [Ne.symm hd]
      rw [others d hd, ne, reservation]
      rfl
  · have some : (s.client c).wait.isSome = true := by
      obtain ⟨w, hw, -⟩ := (s.waitsOn_iff c n).1 waits
      rw [hw]
      rfl
    have count := State.waitCount_succ none some fun d hd => (others d hd).symm
    by_cases ha : a = agentOf c
    · rw [ha, nu]
      dsimp only
      rw [reserved, count, Nat.add_sub_cancel]
    · rw [nus a ha, reserved, State.waitCount_of_ne ha others]

/-- A wait that ends leaves its client READY or DETACHING, and every law as it was. -/
theorem State.Agreed.of_waitEnded (agreed : s.Agreed) (h : u.WaitEnded s c n st e notice) (waits : s.WaitsOn c n)
    (state : st = .ready ∨ st = .detaching) : u.Agreed := by
  have sound := h.waitsSound agreed.waits waits
  obtain ⟨client, others, -, -, pool, -⟩ := h
  refine ⟨sound, ?_, fun d => ?_⟩
  · rw [pool]
    exact List.length_erase_le.trans agreed.pool
  · rw [State.heldLocks_of_erase_reservation pool]
    by_cases hd : d = c
    · rw [hd, client]
      exact (agreed.client c).of_wait_ended state rfl rfl
    · rw [others d hd]
      exact agreed.client d

/-- The reservation of the wait is free again. -/
theorem State.WaitEnded.pool_length (h : u.WaitEnded s c n st e notice) (sound : s.WaitsSound)
    (waits : s.WaitsOn c n) : u.pool.length + 1 = s.pool.length := by
  obtain ⟨-, -, -, -, pool, -⟩ := h
  obtain ⟨-, -, -, reservation, -⟩ := sound
  have mem : PoolRecord.reservation c n ∈ s.pool := by
    rw [← List.one_le_count_iff, (reservation c n).trans (if_pos waits)]
  rw [pool, List.length_erase_add_one mem]

end

/-! ### A wait is queued (R43, R60) -/

theorem insertWaiter_perm (priority : ClientId → Priority) (c : ClientId) (p : Priority) (q : List ClientId) :
    (insertWaiter priority c p q).Perm (c :: q) := by
  obtain ⟨ahead, behind, hq, hi, -⟩ := insertWaiter_split priority c p q
  rw [hi, hq]
  exact List.perm_middle

/-- A queue in order of priority is so after the insertion. -/
theorem insertWaiter_pairwise {priority priority' : ClientId → Priority} {c : ClientId} {p : Priority}
    {q : List ClientId} (order : q.Pairwise fun x y => priority x ≤ priority y)
    (same : ∀ d ∈ q, priority' d = priority d) (own : priority' c = p) :
    (insertWaiter priority c p q).Pairwise fun x y => priority' x ≤ priority' y := by
  obtain ⟨ahead, behind, hq, hi, last, after⟩ := insertWaiter_split priority c p q
  rw [hq] at order same
  have order' : (ahead ++ behind).Pairwise fun x y => priority' x ≤ priority' y :=
    order.imp_of_mem fun {x y} hx hy le => by rwa [same x hx, same y hy]
  obtain ⟨first, second, across⟩ := List.pairwise_append.1 order'
  have before : ∀ d ∈ ahead, priority' d ≤ p := fun d hd => by
    rcases List.eq_nil_or_concat ahead with rfl | ⟨l, e, rfl⟩
    · cases hd
    · have le : priority' e ≤ p := by
        rw [same e (by simp)]
        exact last e (by simp)
      rw [List.concat_eq_append, List.mem_append, List.mem_singleton] at hd
      rcases hd with hd | rfl
      · exact ((List.pairwise_append.1 (List.concat_eq_append ▸ first)).2.2 d hd e (by simp)).trans le
      · exact le
  rw [hi]
  refine List.pairwise_append.2 ⟨first, List.pairwise_cons.2 ⟨fun d hd => ?_, second⟩, fun x hx y hy => ?_⟩
  · rw [own, same d (by simp [hd])]
    exact (after d hd).le
  · rcases List.mem_cons.1 hy with rfl | hy
    · rw [own]
      exact before x hx
    · exact across x hx y hy

section
variable (s : State) (c : ClientId) (n : LockId) (m : Mode) (p : Priority)

theorem State.enqueue_queue (k : LockId) :
    ((s.enqueue c n m p).lock k).queue =
      if k = n then insertWaiter s.waitPriority c p (s.lock n).queue else (s.lock k).queue := by
  by_cases hk : k = n <;> simp [State.enqueue, hk]

theorem State.enqueue_pool : (s.enqueue c n m p).pool = s.pool ++ [.reservation c n] := by
  simp [State.enqueue]

theorem State.enqueue_client :
    (s.enqueue c n m p).client c =
      { s.client c with
        state := .waiting
        lastWaitEnd := .none
        wait := some { lock := n, mode := m, priority := p, countdown := armed (s.client c).waitLimit } } := by
  simp [State.enqueue]

theorem State.enqueue_client_of_ne {d : ClientId} (hd : d ≠ c) : (s.enqueue c n m p).client d = s.client d := by
  simp [State.enqueue, hd]

theorem State.enqueue_reserved (a : AgentId) :
    ((s.enqueue c n m p).nu a).reserved = if a = agentOf c then (s.nu a).reserved + 1 else (s.nu a).reserved := by
  by_cases ha : a = agentOf c <;> simp [State.enqueue, ha]

end

/-- A client that waits for nothing enters a queue. -/
theorem State.enqueue_waitsSound {s : State} {c : ClientId} (n : LockId) (m : Mode) (p : Priority)
    (sound : s.WaitsSound) (none : (s.client c).wait = none) : (s.enqueue c n m p).WaitsSound := by
  obtain ⟨agree, nodup, order, reservation, reserved⟩ := sound
  have client := s.enqueue_client c n m p
  have others := fun d (hd : d ≠ c) => s.enqueue_client_of_ne c n m p hd
  have queue := s.enqueue_queue c n m p
  have idle : ∀ k, ¬ s.WaitsOn c k := fun k => by simp [State.WaitsOn, none]
  have absent : ∀ k, c ∉ (s.lock k).queue := fun k hc => idle k ((agree k c).1 hc)
  have new : ∀ k, (s.enqueue c n m p).WaitsOn c k ↔ k = n := fun k => by
    rw [State.WaitsOn, client]
    exact ⟨fun e => (Option.some.inj e).symm, fun e => e ▸ rfl⟩
  have priority : ∀ k, ∀ d ∈ (s.lock k).queue, (s.enqueue c n m p).waitPriority d = s.waitPriority d :=
    fun k d hd => State.waitPriority_of_client (others d fun e => absent k (e ▸ hd))
  have inserted := insertWaiter_perm s.waitPriority c p (s.lock n).queue
  refine ⟨fun k d => ?_, fun k => ?_, fun k => ?_, fun d k => ?_, fun a => ?_⟩
  · have mem : d ∈ ((s.enqueue c n m p).lock k).queue ↔ (d = c ∧ k = n) ∨ d ∈ (s.lock k).queue := by
      rw [queue]
      by_cases hk : k = n
      · rw [if_pos hk, inserted.mem_iff, hk]
        simp
      · simp [hk]
    rw [mem, agree]
    by_cases hd : d = c
    · simp [hd, new, idle]
    · simp [hd, State.WaitsOn, others d hd]
  · rw [queue]
    split
    · exact inserted.nodup_iff.2 (List.nodup_cons.2 ⟨absent n, nodup n⟩)
    · exact nodup k
  · rw [queue]
    split
    · exact insertWaiter_pairwise (order n) (priority n) (by rw [State.waitPriority_eq, client]; rfl)
    · exact (order k).imp_of_mem fun {x y} hx hy le => by rwa [priority k x hx, priority k y hy]
  · rw [State.enqueue_pool, List.count_append]
    by_cases hd : d = c
    · rw [hd, (reservation c k).trans (if_neg (idle k)), client]
      by_cases hk : n = k <;> simp [hk]
    · rw [others d hd, reservation]
      simp [Ne.symm hd]
  · rw [State.enqueue_reserved, reserved]
    split
    · next ha => rw [ha, State.waitCount_succ none (by rw [client]; rfl) others]
    · next ha => rw [State.waitCount_of_ne ha others]

/-- So does every law hold after it, where the client is below its limit of holds and a record is free. -/
theorem State.Agreed.enqueue {s : State} {c : ClientId} {n : LockId} (agreed : s.Agreed) (m : Mode) (p : Priority)
    (ready : (s.client c).state = .ready) (new : n ∉ s.heldLocks c)
    (room : (s.heldLocks c).length < Config.holdsPerClient) (free : s.pool.length < Config.poolSize) :
    (s.enqueue c n m p).Agreed := by
  have none := (agreed.client c).ready ready
  refine ⟨State.enqueue_waitsSound n m p agreed.waits none, ?_, fun d => ?_⟩
  · simpa [State.enqueue_pool] using free
  · rw [State.heldLocks_of_reservation (s.enqueue_pool c n m p)]
    by_cases hd : d = c
    · subst hd
      rw [State.enqueue_client]
      have old := agreed.client d
      refine ⟨fun _ => rfl, by simp, by simp, room, old.nodup, fun k hk => ⟨(old.apart k hk).1, fun e => ?_⟩⟩
      obtain rfl : n = k := Option.some.inj e
      exact new hk
    · rw [State.enqueue_client_of_ne s c n m p hd]
      exact agreed.client d

/-! ### A hold is created (R6, R42, R46) -/

/-- A client that is not OFF, waits for nothing and does not hold the lock gains a hold on it. -/
theorem State.Agreed.createHold {s : State} {c : ClientId} {n : LockId} (agreed : s.Agreed) (m : Mode)
    (state : (s.client c).state ≠ .off) (wait : (s.client c).wait = none) (new : n ∉ s.heldLocks c)
    (room : (s.heldLocks c).length < Config.holdsPerClient) (free : s.pool.length < Config.poolSize) :
    (s.createHold c n m).Agreed := by
  have pool : (s.createHold c n m).pool = s.pool ++ [.hold _] := rfl
  have client : ∀ d, (s.createHold c n m).client d =
      if d = c then { s.client c with revoked := (s.client c).revoked.set n false } else s.client d := fun d => by
    simp [State.createHold]
  have waits : (s.createHold c n m).WaitsKept s := by
    refine ⟨fun k => ?_, fun d k => ?_, fun d => ?_, fun a => ?_⟩
    · by_cases hk : k = n <;> simp [State.createHold, hk]
    · rw [pool]
      simp
    · rw [client]
      split
      · next hd => rw [hd]
      · rfl
    · simp [State.createHold]
  refine ⟨waits.waitsSound agreed.waits, by simpa [pool] using free, fun d => ?_⟩
  rw [State.heldLocks_of_append pool, client]
  by_cases hd : d = c
  · subst hd
    rw [if_pos rfl, if_pos rfl]
    exact (agreed.client d).of_hold state wait new room
  · rw [if_neg hd, if_neg hd]
    exact agreed.client d

/-! ### A hold leaves the pool (R7, R8, R10) -/

/-- A hold of the pool is removed, and no queue, client or notice state changes. -/
theorem State.Agreed.of_erase_hold {s t : State} {x : Hold} (agreed : s.Agreed)
    (pool : t.pool = s.pool.erase (.hold x)) (queue : ∀ n, (t.lock n).queue = (s.lock n).queue)
    (clients : t.clients = s.clients) (notices : t.notices = s.notices) : t.Agreed := by
  have client : ∀ c, t.client c = s.client c := fun c => by rw [State.client, clients, State.client]
  have waits : t.WaitsKept s := by
    refine ⟨queue, fun c n => ?_, fun c => by rw [client], fun a => by rw [State.nu, notices, State.nu]⟩
    rw [pool, List.count_erase]
    simp
  refine ⟨waits.waitsSound agreed.waits, ?_, fun c => ?_⟩
  · rw [pool]
    exact List.length_erase_le.trans agreed.pool
  · rw [client]
    exact (agreed.client c).of_sublist (State.heldLocks_sublist (pool ▸ List.erase_sublist) c)

theorem State.Agreed.of_holdRemoved {s u : State} {x : Hold} {alone : LockState} (agreed : s.Agreed)
    (h : u.HoldRemoved s x alone) : u.Agreed := by
  obtain ⟨pool, lock, others, frame⟩ := h
  refine agreed.of_erase_hold pool (fun n => ?_) (by rw [frame]) (by rw [frame])
  by_cases hn : n = x.lock
  · rw [hn, lock]
  · rw [others n hn]

end Sys2Proof.Machine
end

section
/-! What the procedures do to the laws of waits, clients and holds: each keeps them. -/

namespace Sys2Proof.Machine

/-! ### Answers, notices, holds changed in place -/

theorem State.answer_booksKept (s : State) (o : Origin) (r : Result) (n : LockId) (g : BitVec 16) :
    (s.answer o r n g).BooksKept s := by
  refine .of_parts (by simp) (fun k => by simp) (fun c => ?_) fun a => ?_
  · rw [State.answer_client]
    split
    · exact ⟨rfl, rfl, rfl⟩
    · exact .refl _
  · rw [State.answer_eq]
    by_cases ha : a = o.agent
    · subst ha
      simp only [State.setSu_nu, State.setNu_nu, if_true]
      split_ifs <;> rfl
    · simp [ha]

theorem State.Agreed.answer {s : State} (agreed : s.Agreed) (o : Origin) (r : Result) (n : LockId) (g : BitVec 16) :
    (s.answer o r n g).Agreed :=
  agreed.of_books (s.answer_booksKept o r n g)

theorem State.Agreed.noticePassed {s u : State} {x : Hold} {revoked : Bool} (agreed : s.Agreed)
    (h : u.NoticePassed s x revoked) : u.Agreed := by
  obtain ⟨others, nu, frame⟩ := h
  refine agreed.of_books (.of_parts (by rw [frame]) (fun n => by rw [frame]; rfl) (fun c => ?_) fun a => ?_)
  · rw [frame]
    exact .refl _
  · by_cases ha : a = agentOf x.client
    · rw [ha, nu]
      split_ifs <;> rfl
    · rw [others a ha]

theorem State.BooksKept.of_map {s t : State} {f : PoolRecord → PoolRecord} (hf : KeepsOwners f)
    (pool : t.pool = s.pool.map f) (queue : ∀ n, (t.lock n).queue = (s.lock n).queue)
    (client : ∀ c, (t.client c).Same (s.client c)) (reserved : ∀ a, (t.nu a).reserved = (s.nu a).reserved) :
    t.BooksKept s :=
  ⟨queue, fun c n => by rw [pool, count_reservation_map hf], by rw [pool, List.length_map],
    State.heldLocks_of_map hf pool, client, reserved⟩

theorem State.Agreed.updateHold {s : State} (agreed : s.Agreed) (c : ClientId) (n : LockId) {f : Hold → Hold}
    (owner : ∀ x, (f x).client = x.client ∧ (f x).lock = x.lock) : (s.updateHold c n f).Agreed := by
  refine agreed.of_books (.of_map ⟨fun _ _ => rfl, fun x => ?_⟩ rfl (fun _ => rfl) (fun _ => .refl _) fun _ => rfl)
  by_cases hx : (x.client == c && x.lock == n) = true
  · exact ⟨f x, if_pos hx, owner x⟩
  · exact ⟨x, if_neg hx, rfl, rfl⟩

/-- A tick changes no more of a wait record than its countdown (R82). -/
theorem Client.tick_same (r : Client) : r.tick.Same r := by
  refine ⟨rfl, ?_, rfl⟩
  rw [Client.tick, Option.map_map]
  rfl

theorem State.Agreed.tick {s : State} (agreed : s.Agreed) : s.tick.Agreed := by
  refine agreed.of_books (.of_map (f := PoolRecord.tick) ⟨fun _ _ => rfl, fun x => ⟨_, rfl, rfl, rfl⟩⟩
    (by simp [State.tick]) (fun n => by simp [State.tick]) (fun c => ?_) fun a => by simp [State.tick])
  rw [State.tick, State.mapClients_client]
  exact Client.tick_same _

/-! ### Changes of client contexts -/

/-- Client contexts change, and no wait with them. -/
theorem State.Agreed.of_clients {s t : State} (agreed : s.Agreed) (locks : t.locks = s.locks) (pool : t.pool = s.pool)
    (notices : t.notices = s.notices) (wait : ∀ c, (t.client c).wait = (s.client c).wait)
    (lawful : ∀ c, (s.client c).Lawful (s.heldLocks c) → (t.client c).Lawful (s.heldLocks c)) : t.Agreed := by
  have waits : t.WaitsKept s :=
    ⟨fun n => by rw [State.lock, locks, State.lock], fun c n => by rw [pool], fun c => by rw [wait],
      fun a => by rw [State.nu, notices, State.nu]⟩
  refine ⟨waits.waitsSound agreed.waits, pool ▸ agreed.pool, fun c => ?_⟩
  rw [State.heldLocks_of_pool pool]
  exact lawful c (agreed.client c)

/-- One client context changes, and not its wait. -/
theorem State.Agreed.setClient {s : State} {c : ClientId} {r : Client} (agreed : s.Agreed)
    (wait : r.wait = (s.client c).wait) (lawful : r.Lawful (s.heldLocks c)) : (s.setClient c r).Agreed := by
  refine agreed.of_clients rfl rfl rfl (fun d => ?_) fun d h => ?_ <;> rw [State.setClient_client] <;> split
  · next hd => rw [wait, hd]
  · rfl
  · next hd => exact hd ▸ lawful
  · exact h

theorem State.Agreed.setRevoked {s : State} {c : ClientId} {n : LockId} {b : Bool} (agreed : s.Agreed)
    (new : n ∈ s.heldLocks c → b = false) : (s.setRevoked c n b).Agreed :=
  agreed.setClient rfl ((agreed.client c).of_revoked new)

/-! ### The end of a wait (R13, R54, R84) -/

theorem State.Agreed.endWaitReported {s : State} {c : ClientId} {n : LockId} (agreed : s.Agreed)
    (waits : s.WaitsOn c n) (e : WaitEnd) (r : WaitEndReason) : (s.endWaitReported c n e r).Agreed := by
  refine agreed.of_waitEnded (s.endWaitReported_waitEnded c n e r) waits ?_
  split
  · exact .inr rfl
  · exact .inl rfl

/-- A wait record names the lock its client waits on. -/
theorem State.waitsOn_of_wait {s : State} {c : ClientId} {w : WaitRecord} (h : (s.client c).wait = some w) :
    s.WaitsOn c w.lock :=
  (s.waitsOn_iff c w.lock).2 ⟨w, h, rfl⟩

theorem State.waitsOn_of_client {s t : State} {c : ClientId} (h : t.client c = s.client c) (n : LockId) :
    t.WaitsOn c n ↔ s.WaitsOn c n :=
  State.waitsOn_of_place (by rw [h]) n

/-- The waits of several clients on one lock end flushed (R13). -/
theorem State.Agreed.flushWaits {n : LockId} {cs : List ClientId} {s : State} (agreed : s.Agreed) (nd : cs.Nodup)
    (waits : ∀ c ∈ cs, s.WaitsOn c n) : (s.flushWaits n cs).Agreed := by
  induction cs generalizing s with
  | nil => exact agreed
  | cons c cs ih =>
    obtain ⟨hc, nd⟩ := List.nodup_cons.1 nd
    obtain ⟨-, others, -⟩ := s.endWaitReported_waitEnded c n .flushed .dead
    refine ih (agreed.endWaitReported (waits c List.mem_cons_self) .flushed .dead) nd fun d hd => ?_
    rw [State.waitsOn_of_client (others d fun e => hc (e ▸ hd))]
    exact waits d (List.mem_cons_of_mem c hd)

theorem State.Agreed.deadFlush {s : State} (agreed : s.Agreed) (n : LockId) : (s.deadFlush n).Agreed := by
  obtain ⟨mem, nodup, -⟩ := agreed.waits
  exact agreed.flushWaits (nodup n) fun c hc => (mem n c).1 hc

/-! ### Grants (R45 to R47) -/

/-- A wait ends granted: what a grant does before the hold is created (R46). -/
def State.endWaitGranted (s : State) (c : ClientId) (n : LockId) (notice : Notice) : State :=
  (((s.endWait c n).setLastWaitEnd c .granted).setClientState c .ready).appendReserved (agentOf c) notice

theorem State.endWaitGranted_waitEnded (s : State) (c : ClientId) (n : LockId) (notice : Notice) :
    (s.endWaitGranted c n notice).WaitEnded s c n .ready .granted (some notice) := by
  unfold State.endWaitGranted State.endWait State.leaveQueue State.appendReserved State.WaitEnded
  simp only [State.freeReservation_eq, eraseP_isReservationOf, State.setWait_eq, State.setLastWaitEnd_eq,
    State.freeSlot_eq, State.setClientState_eq, State.appendNotice_eq]
  refine ⟨by simp, fun d h => by simp [h], by simp, fun m h => by simp [h], rfl, by simp,
    fun a h => by simp [h], rfl⟩

/-- A grant ends the wait and creates the hold (R46). -/
theorem State.grantWaiter_eq_createHold {s : State} {n : LockId} {c : ClientId} {w : WaitRecord}
    (hw : (s.client c).wait = some w) :
    ∃ notice, s.grantWaiter n c = (s.endWaitGranted c n notice).createHold c n w.mode := by
  refine ⟨.granted (slotOf c) n w.mode ((s.lock n).state == .orphaned) ((s.lock n).generation + 1), ?_⟩
  unfold State.grantWaiter
  rw [hw]
  simp only [State.endWaitGranted, State.endWait, State.leaveQueue, State.createHold, State.appendReserved]
  simp only [State.setWait_eq, State.setLock_client, State.freeReservation_eq, State.setClient_pool,
    State.setLock_pool, State.setPool_lock, State.setClient_lock, State.setLock_lock, if_true, State.addHold_eq,
    State.setPool_pool, State.setRevoked_eq, State.setPool_client, State.setClient_client, State.setClientState_eq,
    State.setClient_setClient, State.setLastWaitEnd_eq, State.freeSlot_eq, State.setClient_nu, State.setLock_nu,
    State.setPool_nu, State.appendNotice_eq, State.setNu_nu, State.setNu_setNu, State.setNu_lock, State.setNu_pool,
    State.setNu_client]
  simp only [State.setLock, State.setClient, State.setPool, State.setNu, Vector.set_set]

theorem State.Agreed.grantWaiter {s : State} {c : ClientId} {n : LockId} (agreed : s.Agreed)
    (waits : s.WaitsOn c n) : (s.grantWaiter n c).Agreed := by
  obtain ⟨w, hw, -⟩ := (s.waitsOn_iff c n).1 waits
  obtain ⟨notice, grant⟩ := State.grantWaiter_eq_createHold (n := n) hw
  have ended := s.endWaitGranted_waitEnded c n notice
  have length := ended.pool_length agreed.waits waits
  have lawful := agreed.client c
  have room := lawful.room
  have after := agreed.of_waitEnded ended waits (.inl rfl)
  have wait := ended.wait
  obtain ⟨client, -, -, -, pool, -⟩ := ended
  have held := State.heldLocks_of_erase_reservation pool c
  rw [grant]
  refine after.createHold w.mode (by simp [client]) wait ?_ ?_ ?_
  · rw [held]
    exact fun hn => (lawful.apart n hn).2 waits
  · rw [held]
    simpa [hw] using room
  · have bound := agreed.pool
    omega

theorem State.grantWaiter_client_of_ne (s : State) (n : LockId) {c d : ClientId} (hd : d ≠ c) :
    (s.grantWaiter n c).client d = s.client d := by
  cases hw : (s.client c).wait with
  | none => rw [State.grantWaiter_of_no_wait hw]
  | some w =>
    rw [State.grantWaiter_eq hw]
    simp [State.client, vector_get_set, hd]

theorem State.Agreed.foldl_grantWaiter {n : LockId} {cs : List ClientId} {s : State} (agreed : s.Agreed)
    (nd : cs.Nodup) (waits : ∀ c ∈ cs, s.WaitsOn c n) : (cs.foldl (State.grantWaiter n) s).Agreed := by
  induction cs generalizing s with
  | nil => exact agreed
  | cons c cs ih =>
    obtain ⟨hc, nd⟩ := List.nodup_cons.1 nd
    refine ih (agreed.grantWaiter (waits c List.mem_cons_self)) nd fun d hd => ?_
    rw [State.waitsOn_of_client (s.grantWaiter_client_of_ne n fun e : d = c => hc (e ▸ hd))]
    exact waits d (List.mem_cons_of_mem c hd)

theorem State.Agreed.grantEval {s : State} (agreed : s.Agreed) (n : LockId) : (s.grantEval n).Agreed := by
  obtain ⟨mem, nodup, -⟩ := agreed.waits
  have sub : (s.waitersToGrant n).Sublist (s.lock n).queue :=
    (s.waitersToGrant_sublist n).trans List.filter_sublist
  exact agreed.foldl_grantWaiter ((nodup n).sublist sub) fun c hc => (mem n c).1 (sub.subset hc)

theorem State.Agreed.foldl_grantEval {s : State} (agreed : s.Agreed) (ns : List LockId) :
    (ns.foldl State.grantEval s).Agreed := by
  induction ns generalizing s with
  | nil => exact agreed
  | cons n ns ih => exact ih (agreed.grantEval n)

/-! ### Removals (R7, R8, R89, R119) -/

theorem State.Agreed.removeHold {s : State} {c : ClientId} {n : LockId} {x : Hold} (agreed : s.Agreed)
    (found : s.findHold c n = some x) (alone : LockState) : (s.removeHold x alone).Agreed :=
  agreed.of_holdRemoved (State.removeHold_holdRemoved alone found)

/-- A revoke removes the hold before the lock enters the revoked set (R89). -/
theorem State.Agreed.revoke {s : State} {c : ClientId} {n : LockId} {x : Hold} (agreed : s.Agreed)
    (found : s.findHold c n = some x) : (s.revoke x).Agreed := by
  have ⟨pool, _⟩ := State.removeHold_holdRemoved .orphaned found
  obtain ⟨-, -, mem⟩ := State.findHold_some found
  have gone := State.not_mem_heldLocks_of_erase mem (agreed.client x.client).nodup pool
  have listed := (agreed.removeHold found .orphaned).setRevoked (b := true) fun held => absurd held gone
  exact (listed.noticePassed (State.passUnreserved_noticePassed _ x true)).grantEval x.lock

theorem State.Agreed.makeDead {s : State} {c : ClientId} {n : LockId} {x : Hold} (agreed : s.Agreed)
    (found : s.findHold c n = some x) : (s.makeDead c n).Agreed := by
  have dead : ∀ l : LockRecord, l.queue = (s.lock n).queue → ((s.freeHold c n).setLock n l).Agreed := fun l queue => by
    refine agreed.of_erase_hold (State.eraseP_isHoldOf found) (fun k => ?_) rfl rfl
    by_cases hk : k = n <;> simp [hk, queue]
  exact ((dead { s.lock n with state := .dead, cleanPending := false } rfl).deadFlush n).of_eq rfl rfl rfl rfl

end Sys2Proof.Machine
end

section
/-! What the commands do to the laws of waits, clients and holds (R20 to R22, R25, R29, R31, R59, R60, R96). -/

namespace Sys2Proof.Machine

/-! ### ACQUIRE (R38 to R43) -/

/-- An ACQUIRE that no check of R38 refuses is by a READY client that does not hold the lock and is below its
limit of holds. -/
theorem State.acquireDecision_client {s : State} {a : AgentId} {c : ClientId} {n : LockId} {m : Mode} {k : Kind}
    {p : Priority} {d : Decision} (h : s.acquireDecision a c n m k p = d) (passed : ∀ r, d ≠ .refuse r) :
    (s.client c).state = .ready ∧ n ∉ s.heldLocks c ∧ (s.heldLocks c).length < Config.holdsPerClient := by
  unfold State.acquireDecision at h
  obtain ⟨off, h⟩ := check_passed h passed
  obtain ⟨detaching, h⟩ := check_passed h passed
  obtain ⟨waiting, h⟩ := check_passed h passed
  obtain ⟨-, h⟩ := check_passed h passed
  obtain ⟨-, h⟩ := check_passed h passed
  obtain ⟨-, h⟩ := check_passed h passed
  obtain ⟨held, h⟩ := check_passed h passed
  obtain ⟨-, h⟩ := check_passed h passed
  obtain ⟨room, -⟩ := check_passed h passed
  refine ⟨?_, (s.mem_heldLocks_iff c n).not.2 held, ?_⟩
  · cases e : (s.client c).state
    case ready => rfl
    all_goals contradiction
  · rw [State.heldLocks, List.length_map]
    exact Nat.lt_of_not_le room

/-- A request is granted or queued only where a record of the pool is free (R40, R41). -/
theorem State.grantDecision_free {s : State} {a : AgentId} {n : LockId} {m : Mode} {k : Kind} {p : Priority}
    {d : Decision} (h : s.grantDecision a n m k p = d) (passed : ∀ r, d ≠ .refuse r) :
    s.pool.length < Config.poolSize := by
  have free : s.freeCount ≠ 0 → s.pool.length < Config.poolSize := Nat.lt_of_sub_ne_zero
  have queued : s.queueDecision a n k = d → s.pool.length < Config.poolSize := fun h => by
    unfold State.queueDecision at h
    obtain ⟨-, h⟩ := check_passed h passed
    obtain ⟨-, h⟩ := check_passed h passed
    obtain ⟨-, h⟩ := check_passed h passed
    exact free (check_passed h passed).1
  unfold State.grantDecision at h
  split at h
  · split at h
    · exact absurd h.symm (passed _)
    · exact queued h
  · split at h
    · exact free (check_passed h passed).1
    · exact queued h

theorem State.Agreed.acquireOp {s : State} (agreed : s.Agreed) (o : Origin) (n : LockId) (m : Mode) (k : Kind)
    (p : Priority) : (s.acquireOp o n m k p).Agreed := by
  unfold State.acquireOp
  split
  · exact agreed.answer ..
  · next h =>
    obtain ⟨ready, new, room⟩ := State.acquireDecision_client h (by simp)
    obtain ⟨-, granted⟩ := State.acquireDecision_of_passed h (by simp)
    exact (agreed.createHold m (by simp [ready]) ((agreed.client o.client).ready ready) new room
      (State.grantDecision_free granted (by simp))).answer ..
  · next h =>
    obtain ⟨ready, new, room⟩ := State.acquireDecision_client h (by simp)
    obtain ⟨-, queued⟩ := State.acquireDecision_of_passed h (by simp)
    exact ((agreed.enqueue m p ready new room (State.grantDecision_free queued (by simp))).answer ..).grantEval n

/-! ### RELEASE, MARK_CLEAN, CANCEL, RENEW, MAIL -/

theorem State.Agreed.releaseOp {s : State} (agreed : s.Agreed) (o : Origin) (n : LockId) :
    (s.releaseOp o n).Agreed := by
  unfold State.releaseOp
  split
  · exact agreed.answer ..
  · split
    · split
      · exact (agreed.setRevoked fun _ => rfl).answer ..
      · exact agreed.answer ..
    · next found =>
      split
      · exact (agreed.makeDead found).answer ..
      · exact ((agreed.removeHold found .free).grantEval n).answer ..

/-- A lock record changes, and not its queue. -/
theorem State.Agreed.setLock {s : State} {n : LockId} {l : LockRecord} (agreed : s.Agreed)
    (queue : l.queue = (s.lock n).queue) : (s.setLock n l).Agreed := by
  refine agreed.of_books (.of_parts rfl (fun k => ?_) (fun _ => .refl _) fun _ => rfl)
  by_cases hk : k = n <;> simp [hk, queue]

theorem State.Agreed.markCleanOp {s : State} (agreed : s.Agreed) (o : Origin) (n : LockId) :
    (s.markCleanOp o n).Agreed := by
  unfold State.markCleanOp
  split
  · exact agreed.answer ..
  · split
    · split <;> exact agreed.answer ..
    · split
      · refine State.Agreed.answer ?_ ..
        exact agreed.setLock rfl
      · exact agreed.answer ..

/-- A cancelled wait leaves its client READY (R54). -/
theorem State.Agreed.cancelWait_ready {s : State} {c : ClientId} {n : LockId} (agreed : s.Agreed)
    (waits : s.WaitsOn c n) : ((s.cancelWait c n).setClientState c .ready).Agreed := by
  obtain ⟨client, others, lock, locks, pool, nu, nus, frame⟩ := s.cancelWait_waitEnded c n
  refine agreed.of_waitEnded (c := c) (n := n) (st := .ready) (e := .cancelled) (notice := none)
    ⟨by simp [client], fun d hd => by simp [hd, others d hd], lock, locks, pool, nu, nus, ?_⟩ waits (.inl rfl)
  rw [frame]
  rfl

theorem State.Agreed.cancelOp {s : State} (agreed : s.Agreed) (o : Origin) : (s.cancelOp o).Agreed := by
  unfold State.cancelOp
  split
  · exact agreed.answer ..
  · exact agreed.answer ..
  · split
    · exact agreed.answer ..
    · next w hw => exact ((agreed.cancelWait_ready (State.waitsOn_of_wait hw)).answer ..).grantEval w.lock
  · split <;> exact agreed.answer ..

theorem State.Agreed.renewOp {s : State} (agreed : s.Agreed) (o : Origin) (n : LockId) :
    (s.renewOp o n).Agreed := by
  unfold State.renewOp
  split
  · exact agreed.answer ..
  · split
    · split <;> exact agreed.answer ..
    · split
      · exact agreed.answer ..
      · refine State.Agreed.answer ?_ ..
        exact agreed.updateHold o.client n fun _ => ⟨rfl, rfl⟩

/-- One agent's notice state changes, and not its reserved count. -/
theorem State.Agreed.setNu {s : State} {a : AgentId} {r : AgentNotices} (agreed : s.Agreed)
    (reserved : r.reserved = (s.nu a).reserved) : (s.setNu a r).Agreed := by
  refine agreed.of_books (.of_parts rfl (fun _ => rfl) (fun _ => .refl _) fun b => ?_)
  by_cases hb : b = a <;> simp [hb, reserved]

theorem State.Agreed.mailOp {s : State} (agreed : s.Agreed) (o : Origin) (target : AgentId) (payload : BitVec 16) :
    (s.mailOp o target payload).Agreed := by
  unfold State.mailOp
  split_ifs
  case neg =>
    refine State.Agreed.answer ?_ ..
    exact agreed.setNu rfl
  all_goals exact agreed.answer ..

/-! ### Expiries (R84, R87) -/

theorem State.Agreed.warnHold {s : State} (agreed : s.Agreed) (x : Hold) (countdown : Countdown) (phase : Phase) :
    (s.warnHold x countdown phase).Agreed :=
  (agreed.noticePassed (s.passUnreserved_noticePassed x false)).updateHold x.client x.lock fun _ => ⟨rfl, rfl⟩

theorem State.Agreed.expireHold {s : State} {c : ClientId} {n : LockId} {x : Hold} (agreed : s.Agreed)
    (found : s.findHold c n = some x) : (s.expireHold x).Agreed := by
  unfold State.expireHold
  split
  · exact agreed.revoke found
  · split
    · exact agreed.warnHold ..
    · exact agreed.revoke found
    · split
      · exact agreed.revoke found
      · exact agreed.warnHold ..

theorem State.Agreed.holdExpiryOp {s : State} (agreed : s.Agreed) (c : ClientId) (n : LockId) :
    (s.holdExpiryOp c n).Agreed := by
  unfold State.holdExpiryOp
  split
  · exact agreed
  · next found =>
    split
    · exact agreed.expireHold found
    · exact agreed

theorem State.Agreed.waitExpiryOp {s : State} (agreed : s.Agreed) (c : ClientId) : (s.waitExpiryOp c).Agreed := by
  unfold State.waitExpiryOp
  split
  · exact agreed
  · next w hw =>
    split
    · exact (agreed.endWaitReported (State.waitsOn_of_wait hw) .expired .expired).grantEval w.lock
    · exact agreed

/-! ### Attaching and detach requests (R113 to R117) -/

/-- The clients of an agent become READY, where none of them waits (R113). -/
theorem State.Agreed.attached {s t : State} {a : AgentId} (agreed : s.Agreed) (h : t.Attached s a)
    (idle : ∀ sl, (s.client (clientOf a sl)).wait = none) : t.Agreed := by
  obtain ⟨-, -, client, frame⟩ := h
  refine agreed.of_clients (by rw [frame]) (by rw [frame]) (by rw [frame]) (fun c => ?_) fun c lawful => ?_ <;>
    rw [client] <;> split
  · rfl
  · rfl
  · next ha => exact lawful.of_ready (by rw [← clientOf_agentOf_slotOf c, ha, idle])
  · exact lawful

/-- A detach request makes a client DETACHING or leaves it alone (R114). -/
theorem State.MadeDetaching.client {s u : State} {a : AgentId} {set : SlotSet} {scope : Scope}
    (h : u.MadeDetaching s a set scope) (c : ClientId) :
    u.client c = s.client c ∨ u.client c = { s.client c with state := .detaching } := by
  obtain ⟨own, others, -⟩ := h
  by_cases ha : agentOf c = a
  · subst ha
    have slot := own (slotOf c)
    rw [clientOf_agentOf_slotOf] at slot
    rw [slot]
    split
    · exact .inr rfl
    · exact .inl rfl
  · exact .inl (others c ha)

theorem State.Agreed.madeDetaching {s u : State} {a : AgentId} {set : SlotSet} {scope : Scope} (agreed : s.Agreed)
    (h : u.MadeDetaching s a set scope) : u.Agreed := by
  have client := h.client
  obtain ⟨-, -, -, -, frame⟩ := h
  refine agreed.of_clients (by rw [frame]) (by rw [frame]) (by rw [frame]) (fun c => ?_) fun c lawful => ?_ <;>
    rcases client c with e | e <;> rw [e]
  · exact lawful
  · exact lawful.of_detaching

theorem State.Agreed.detachRequest {s : State} (agreed : s.Agreed) (a : AgentId) (named : SlotSet) (scope : Scope) :
    (s.detachRequest a named scope).Agreed := by
  obtain ⟨set, u, -, made, placed, -⟩ := s.detachRequest_requested a named scope
  have evaluated := (agreed.madeDetaching made).foldl_grantEval (s.waitLocks a set)
  exact evaluated.of_eq (by rw [placed]) (by rw [placed]) (by rw [placed]) (by rw [placed])

/-- The clients of a DETACHED agent are OFF, and wait for nothing (R20, R112). -/
theorem State.JobsSound.idle_of_detached {s : State} {a : AgentId} (jobs : s.JobsSound) (agreed : s.Agreed)
    (h : (s.line a).attach = .detached) (sl : Slot) : (s.client (clientOf a sl)).wait = none := by
  obtain ⟨-, -, -, off, -⟩ := jobs
  exact ((agreed.client _).off ((off _).1 (by rwa [agentOf_clientOf]))).1

theorem State.Agreed.attachAgent {s : State} {a : AgentId} (agreed : s.Agreed)
    (idle : ∀ sl, (s.client (clientOf a sl)).wait = none) : (s.attachAgent a).Agreed :=
  agreed.attached (s.attachAgent_attached a) idle

theorem State.Agreed.assertLine {s : State} (agreed : s.Agreed) (a : AgentId) : (s.assertLine a).Agreed := by
  have level : (s.setLevel a true).Agreed := agreed.of_eq rfl rfl rfl rfl
  unfold State.assertLine
  split
  · exact agreed
  · dsimp only
    split
    · exact level.detachRequest a everySlot .agent
    · exact level

theorem State.Agreed.deassertLine {s : State} (agreed : s.Agreed) (jobs : s.JobsSound) (a : AgentId) :
    (s.deassertLine a).Agreed := by
  have level : (s.setLevel a false).Agreed := agreed.of_eq rfl rfl rfl rfl
  unfold State.deassertLine
  split
  · exact agreed
  · dsimp only
    split
    · next h =>
      refine level.attachAgent fun sl => ?_
      rw [State.setLevel_eq, State.setLine_client]
      exact jobs.idle_of_detached agreed (by simpa using h.1) sl
    · exact level

/-! ### The steps of the ACTIVE job (R118 to R123) -/

theorem firstPosition_step {set : SlotSet} {sl : Slot} {phase : JobPhase} (h : firstPosition set = .step sl phase) :
    set.get sl = true := by
  unfold firstPosition at h
  split at h
  · cases h
  · next found =>
    cases h
    simpa using List.find?_some found

/-- The ACTIVE job's client at a WAIT step is DETACHING (R114, R118). -/
theorem State.JobsSound.detaching_of_waitStep {s : State} {j : Job} {sl : Slot} (jobs : s.JobsSound)
    (active : s.activeJob = some { job := j, position := .step sl .wait }) :
    (s.client (clientOf j.agent sl)).state = .detaching := by
  obtain ⟨-, detaching, -, -, -, -, -, -, sound⟩ := jobs
  obtain ⟨named, -, position, -⟩ := sound _ active
  refine (detaching _).2 ⟨j, ?_, ?_, ?_⟩
  · simp [State.jobs, active]
  · rw [agentOf_clientOf]
  · rw [slotOf_clientOf]
    exact named sl (firstPosition_step position)

/-- At the final step every named client of the ACTIVE job is stripped (R121, R122). -/
theorem State.JobsSound.stripped_of_final {s : State} {j : Job} {sl : Slot} (jobs : s.JobsSound)
    (active : s.activeJob = some { job := j, position := .final }) (hsl : j.named.get sl = true) :
    s.Stripped (clientOf j.agent sl) := by
  obtain ⟨-, -, -, -, -, -, -, -, sound⟩ := jobs
  obtain ⟨-, stripped, position, -⟩ := sound _ active
  exact stripped sl hsl ((firstPosition_final_iff j.set).1 position sl)

/-- An ACTIVE job of AGENT scope names every client of its agent: the agent is DETACHING, so its clients are,
and no WAITING job of the agent names them (R115). -/
theorem State.JobsSound.named_of_agentScope {s : State} {x : ActiveJob} (jobs : s.JobsSound)
    (active : s.activeJob = some x) (scope : x.job.scope = .agent) (sl : Slot) : x.job.named.get sl = true := by
  obtain ⟨attach, detaching, clients, -, -, -, -, -, sound⟩ := jobs
  obtain ⟨-, -, -, waiting⟩ := sound x active
  have agent : (s.line x.job.agent).attach = .detaching :=
    (attach _).2 ⟨x.job, by simp [State.jobs, active], rfl, scope⟩
  obtain ⟨j, hj, agentOf_j, named⟩ := (detaching _).1 (clients (clientOf x.job.agent sl) (by rwa [agentOf_clientOf]))
  rw [agentOf_clientOf] at agentOf_j
  rw [slotOf_clientOf] at named
  simp only [State.jobs, active, Option.map_some, Option.toList_some, List.singleton_append, List.mem_cons] at hj
  rcases hj with rfl | hj
  · exact named
  · obtain ⟨client, -⟩ := waiting j hj agentOf_j
    rw [scope] at client
    cases client

theorem State.Agreed.reclaimWait {s : State} {c : ClientId} (agreed : s.Agreed)
    (detaching : (s.client c).state = .detaching) : (s.reclaimWait c).Agreed := by
  unfold State.reclaimWait
  split
  · exact agreed
  · next w hw =>
    exact (agreed.of_waitEnded (s.cancelWait_waitEnded c w.lock) (State.waitsOn_of_wait hw)
      (.inr detaching)).grantEval w.lock

theorem State.Agreed.waitStepOp {s : State} (agreed : s.Agreed) (jobs : s.JobsSound) : s.waitStepOp.Agreed := by
  unfold State.waitStepOp
  split
  · next active => exact (agreed.reclaimWait (jobs.detaching_of_waitStep active)).of_eq rfl rfl rfl rfl
  · exact agreed

theorem State.Agreed.holdStepOp {s : State} (agreed : s.Agreed) : s.holdStepOp.Agreed := by
  unfold State.holdStepOp
  split
  · split
    · exact agreed.of_eq rfl rfl rfl rfl
    · next newest =>
      have found := State.findHold_of_nodup (List.mem_of_getLast? newest) (agreed.client _).nodup
      exact (agreed.removeHold found .orphaned).grantEval _
  · exact agreed

theorem State.Agreed.flushStepOp {s : State} (agreed : s.Agreed) : s.flushStepOp.Agreed := by
  unfold State.flushStepOp
  split
  · next j sl _ =>
    have flushed : (s.flushClient j.agent sl).Agreed := agreed.setNu rfl
    exact flushed.of_eq rfl rfl rfl rfl
  · exact agreed

/-- The contexts of several clients of an agent change, one after the other. -/
def State.changeClients (s : State) (g : Client → Client) (a : AgentId) (slots : List Slot) : State :=
  slots.foldl (fun s sl => s.setClient (clientOf a sl) (g (s.client (clientOf a sl)))) s

/-- Stripped clients take other states, WAITING excepted, and every stripped client stays so. -/
theorem State.Agreed.changeClients {g : Client → Client} (hg : ∀ r, (g r).wait = r.wait ∧ (g r).state ≠ .waiting)
    (a : AgentId) {slots : List Slot} {s : State} (agreed : s.Agreed)
    (stripped : ∀ sl ∈ slots, s.Stripped (clientOf a sl)) :
    (s.changeClients g a slots).Agreed ∧ ∀ d, s.Stripped d → (s.changeClients g a slots).Stripped d := by
  induction slots generalizing s with
  | nil => exact ⟨agreed, fun _ h => h⟩
  | cons sl slots ih =>
    have ⟨wait, held⟩ := stripped sl List.mem_cons_self
    obtain ⟨kept, state⟩ := hg (s.client (clientOf a sl))
    have lawful := Client.lawful_of_stripped state (kept.trans wait)
    rw [← (s.heldLocks_eq_nil_iff _).2 held] at lawful
    have next : ∀ d, s.Stripped d → (s.setClient (clientOf a sl) (g (s.client (clientOf a sl)))).Stripped d :=
      fun d h => by
        refine ⟨?_, h.2⟩
        rw [State.setClient_client]
        split
        · rw [kept, wait]
        · exact h.1
    obtain ⟨done, later⟩ := ih (agreed.setClient kept lawful) fun sm hsm =>
      next _ (stripped sm (List.mem_cons_of_mem sl hsm))
    exact ⟨done, fun d h => later d (next d h)⟩

/-- A client returned to READY by a CLIENT-scope job (R121). -/
def Client.returned (r : Client) : Client :=
  { r with state := .ready, lastWaitEnd := .cancelled }

theorem State.returnClient_eq (s : State) (c : ClientId) :
    s.returnClient c = s.setClient c (s.client c).returned := by
  simp [State.returnClient, Client.returned]

/-- A client turned OFF by an AGENT-scope job (R122). -/
def Client.turnedOff (r : Client) : Client :=
  { r with state := .off, lastWaitEnd := .none, revoked := Vector.replicate 64 false }

theorem State.turnOffClient_eq (s : State) (c : ClientId) :
    s.turnOffClient c = s.setClient c (s.client c).turnedOff := rfl

theorem State.Agreed.endClientJob {s : State} {j : Job} (agreed : s.Agreed)
    (stripped : ∀ sl, j.named.get sl = true → s.Stripped (clientOf j.agent sl)) : (s.endClientJob j).Agreed := by
  unfold State.endClientJob
  split
  · simp only [State.returnClient_eq]
    exact (agreed.changeClients (g := Client.returned) (fun r => ⟨rfl, by simp [Client.returned]⟩) j.agent
      fun sl hsl => stripped sl (List.mem_filter.1 hsl).2).1
  · exact agreed.of_eq rfl rfl rfl rfl
  · exact agreed

theorem State.Agreed.endJob {s : State} (agreed : s.Agreed) : s.endJob.Agreed := by
  obtain ⟨frame, -⟩ := s.endJob_jobEnded
  exact agreed.of_eq (by rw [frame]) (by rw [frame]) (by rw [frame]) (by rw [frame])

theorem State.Agreed.clientJobFinalOp {s : State} (agreed : s.Agreed) (jobs : s.JobsSound) :
    s.clientJobFinalOp.Agreed := by
  unfold State.clientJobFinalOp
  split
  · next j active =>
    split
    · exact (agreed.endClientJob fun sl hsl => jobs.stripped_of_final active hsl).endJob
    · exact agreed
  · exact agreed

theorem State.Agreed.endAgentJob {s : State} {a : AgentId} (agreed : s.Agreed)
    (stripped : ∀ sl, s.Stripped (clientOf a sl)) : (s.endAgentJob a).Agreed := by
  obtain ⟨off, still⟩ := agreed.changeClients (g := Client.turnedOff)
    (fun r => ⟨rfl, by simp [Client.turnedOff]⟩) a (slots := allSlots) fun sl _ => stripped sl
  have detached : ∀ u : State, u.Agreed → ((u.flushAgent a).setAttach a .detached).Agreed := fun u h => by
    have flushed : (u.flushAgent a).Agreed := h.setNu rfl
    exact flushed.of_eq rfl rfl rfl rfl
  unfold State.endAgentJob
  dsimp only
  split
  · exact (detached _ off).attachAgent fun sl => (still _ (stripped sl)).1
  · exact detached _ off

theorem State.Agreed.agentJobFinalOp {s : State} (agreed : s.Agreed) (jobs : s.JobsSound) :
    s.agentJobFinalOp.Agreed := by
  unfold State.agentJobFinalOp
  split
  · next j active =>
    split
    · next scope =>
      exact (agreed.endAgentJob fun sl =>
        jobs.stripped_of_final active (jobs.named_of_agentScope active scope sl)).endJob
    · exact agreed
  · exact agreed

/-! ### The sweep (R75) -/

theorem State.Agreed.sweepStepOp {s : State} (agreed : s.Agreed) : s.sweepStepOp.Agreed := by
  have swept : (s.sweepLock s.su.sweep.position).Agreed := by
    unfold State.sweepLock
    split
    · exact agreed
    · exact agreed.grantEval _
  unfold State.sweepStepOp
  split
  · dsimp only
    split <;> exact swept.of_eq rfl rfl rfl rfl
  · exact agreed

/-! ### The resets (R1, R14, R28, R111) -/

/-- Nobody waits and nobody holds. -/
theorem State.agreed_of_empty {s : State} (queue : ∀ n, (s.lock n).queue = []) (pool : s.pool = [])
    (client : ∀ c, (s.client c).wait = none ∧ (s.client c).state ≠ .waiting) (reserved : ∀ a, (s.nu a).reserved = 0) :
    s.Agreed := by
  have wait : ∀ c, (s.client c).wait = none := fun c => (client c).1
  refine ⟨⟨fun n c => ?_, fun n => ?_, fun n => ?_, fun c n => ?_, fun a => ?_⟩, by simp [pool], fun c => ?_⟩
  · simp [queue, State.WaitsOn, wait]
  · simp [queue]
  · simp [queue]
  · simp [pool, wait]
  · simp [reserved, State.waitCount, wait]
  · have none : s.heldLocks c = [] := by simp [State.heldLocks_eq, pool]
    rw [none]
    exact Client.lawful_of_stripped (client c).2 (wait c)

theorem clientAfterSoftReset_ne_waiting (st : AttachState) : clientAfterSoftReset st ≠ .waiting := by
  cases st <;> simp [clientAfterSoftReset]

theorem State.softReset_agreed (s : State) : s.softReset.Agreed := by
  refine State.agreed_of_empty (fun n => ?_) rfl (fun c => ?_) fun a => ?_
  · rw [State.softReset_lock]
    rfl
  · simp [State.softReset, Client.softReset, clientAfterSoftReset_ne_waiting]
  · simp [State.softReset, AgentNotices.softReset]

theorem State.powerOn_client (s : State) (levels : BitVec 8) (c : ClientId) :
    (s.powerOn levels).client c = powerOnClient levels c :=
  vector_get_ofFn _ c

theorem State.powerOn_nu (s : State) (levels : BitVec 8) (a : AgentId) :
    (s.powerOn levels).nu a = AgentNotices.powerOn := by
  simp [State.powerOn, State.nu, State.reset, Vector.get_eq_getElem]

theorem State.powerOn_agreed (s : State) (levels : BitVec 8) : (s.powerOn levels).Agreed := by
  refine State.agreed_of_empty (fun n => ?_) rfl (fun c => ?_) fun a => ?_
  · rw [State.powerOn_lock]
    rfl
  · rw [State.powerOn_client]
    refine ⟨rfl, ?_⟩
    rw [powerOnClient]
    dsimp only
    split <;> simp
  · rw [State.powerOn_nu]
    rfl

/-! ### Every command -/

theorem State.Agreed.writePlain {s : State} (agreed : s.Agreed) (r : PlainReg) (w : Word) :
    (s.writePlain r w).Agreed := by
  cases r
  case waitlim a sl => exact agreed.setClient rfl ((agreed.client (clientOf a sl)).congr ⟨rfl, rfl, rfl⟩)
  case nqcfg => exact agreed.setNu rfl
  case aen => exact agreed.setNu rfl
  all_goals exact agreed.of_eq rfl rfl rfl rfl

theorem AgentNotices.writeAflags_reserved (r : AgentNotices) (w : Word) :
    (r.writeAflags w).reserved = r.reserved := by
  unfold AgentNotices.writeAflags
  split_ifs <;> rfl

theorem State.Agreed.writeAflags {s : State} (agreed : s.Agreed) (a : AgentId) (w : Word) :
    (s.writeAflags a w).Agreed :=
  agreed.setNu ((s.nu a).writeAflags_reserved w)

theorem State.Agreed.popNotice {s : State} (agreed : s.Agreed) (a : AgentId) : (s.popNotice a).Agreed := by
  have read : (s.setBusData (encodeHead (s.nu a).queue.head?)).Agreed := agreed.of_eq rfl rfl rfl rfl
  exact read.setNu rfl

section
variable {s : State}

theorem exec_accessMisuse_agreed (agreed : s.Agreed) (access : BusAccess) :
    ∃ t, exec (.accessMisuse access) s = .next t ∧ t.Agreed := by
  show ∃ t, execAccessMisuse access s = .next t ∧ t.Agreed
  unfold execAccessMisuse
  cases access.write <;> exact ⟨_, rfl, agreed.of_eq rfl rfl rfl rfl⟩

theorem exec_detachClient_agreed (agreed : s.Agreed) (number : Fin 64) :
    ∃ t, exec (.detachClient number) s = .next t ∧ t.Agreed := by
  refine ⟨_, rfl, ?_⟩
  split
  · exact (agreed.detachRequest (agentOf (clientOfNumber number)) (onlySlot (slotOf (clientOfNumber number)))
      .client).of_eq rfl rfl rfl rfl
  · exact agreed.of_eq rfl rfl rfl rfl

theorem exec_detachAgent_agreed (agreed : s.Agreed) (number : Fin 64) :
    ∃ t, exec (.detachAgent number) s = .next t ∧ t.Agreed := by
  refine ⟨_, rfl, ?_⟩
  split
  · exact (agreed.detachRequest (agentOfNumber number) everySlot .agent).of_eq rfl rfl rfl rfl
  · exact agreed.of_eq rfl rfl rfl rfl
  · exact agreed.of_eq rfl rfl rfl rfl

theorem exec_attach_agreed (agreed : s.Agreed) (jobs : s.JobsSound) (number : Fin 64) :
    ∃ t, exec (.attach number) s = .next t ∧ t.Agreed := by
  refine ⟨_, rfl, ?_⟩
  split
  · exact agreed.of_eq rfl rfl rfl rfl
  · exact agreed.of_eq rfl rfl rfl rfl
  · next detached =>
    split
    · exact agreed.of_eq rfl rfl rfl rfl
    · exact (agreed.attachAgent (jobs.idle_of_detached agreed detached)).of_eq rfl rfl rfl rfl

theorem exec_tick_agreed (agreed : s.Agreed) : ∃ t, exec .tick s = .next t ∧ t.Agreed := by
  refine ⟨_, rfl, ?_⟩
  split
  · exact agreed.tick
  · exact agreed

/-- A lock command of the supervisor that keeps the queue of its lock (R2, R11, R12). -/
theorem State.Agreed.setLock_setSResult {n : LockId} {l : LockRecord} (agreed : s.Agreed)
    (queue : l.queue = (s.lock n).queue) (r : SupResult) (code : BitVec 4) (number : Fin 64) :
    ((s.setLock n l).setSResult r code number).Agreed :=
  (agreed.setLock queue).of_eq rfl rfl rfl rfl

theorem exec_setcfg_agreed (agreed : s.Agreed) (n : LockId) : ∃ t, exec (.setcfg n) s = .next t ∧ t.Agreed :=
  ⟨_, exec_setcfg n s, agreed.setLock_setSResult (by split <;> rfl) ..⟩

theorem exec_online_agreed (agreed : s.Agreed) (n : LockId) : ∃ t, exec (.online n) s = .next t ∧ t.Agreed :=
  ⟨_, exec_online n s, agreed.setLock_setSResult (by split <;> rfl) ..⟩

theorem exec_offline_agreed (agreed : s.Agreed) (n : LockId) : ∃ t, exec (.offline n) s = .next t ∧ t.Agreed :=
  ⟨_, exec_offline n s, agreed.setLock_setSResult (by split <;> rfl) ..⟩

theorem exec_restore_agreed (agreed : s.Agreed) (n : LockId) : ∃ t, exec (.restore n) s = .next t ∧ t.Agreed :=
  ⟨_, exec_restore n s, agreed.setLock_setSResult (by split <;> rfl) ..⟩

/-- Every command keeps the laws of waits, clients and holds, where the jobs are sound. -/
theorem exec_agreed (i : Instr) (agreed : s.Agreed) (jobs : s.JobsSound) :
    ∃ t, exec i s = .next t ∧ t.Agreed := by
  cases i
  case acquire => exact ⟨_, rfl, agreed.acquireOp ..⟩
  case release => exact ⟨_, rfl, agreed.releaseOp ..⟩
  case cancel => exact ⟨_, rfl, agreed.cancelOp _⟩
  case renew => exact ⟨_, rfl, agreed.renewOp ..⟩
  case markClean => exact ⟨_, rfl, agreed.markCleanOp ..⟩
  case mail => exact ⟨_, rfl, agreed.mailOp ..⟩
  case badOpcode => exact ⟨_, rfl, agreed.answer ..⟩
  case claimRead a n =>
    exact ⟨_, rfl, (agreed.acquireOp (Origin.claimRead a (s.window a) n) n .exclusive .tryOnce
      (s.window a).priority).of_eq rfl rfl rfl rfl⟩
  case claimWrite => exact ⟨_, rfl, agreed.releaseOp ..⟩
  case noticePop => exact ⟨_, rfl, agreed.popNotice _⟩
  case clearLost => exact ⟨_, rfl, agreed.writeAflags ..⟩
  case clearFault => exact ⟨_, rfl, agreed.writeAflags ..⟩
  case clearMulti => exact ⟨_, rfl, agreed.writeAflags ..⟩
  case accessMisuse access => exact exec_accessMisuse_agreed agreed access
  case registerWrite => exact ⟨_, rfl, agreed.writePlain ..⟩
  case setcfg n => exact exec_setcfg_agreed agreed n
  case online n => exact exec_online_agreed agreed n
  case offline n => exact exec_offline_agreed agreed n
  case restore n => exact exec_restore_agreed agreed n
  case detachClient number => exact exec_detachClient_agreed agreed number
  case detachAgent number => exact exec_detachAgent_agreed agreed number
  case attach number => exact exec_attach_agreed agreed jobs number
  case softReset => exact ⟨_, rfl, s.softReset_agreed⟩
  case powerOnReset => exact ⟨_, rfl, s.powerOn_agreed _⟩
  case resetAssertion => exact ⟨_, rfl, agreed.assertLine _⟩
  case resetDeassertion => exact ⟨_, rfl, agreed.deassertLine jobs _⟩
  case tick => exact exec_tick_agreed agreed
  case holdExpiry => exact ⟨_, rfl, agreed.holdExpiryOp ..⟩
  case waitExpiry => exact ⟨_, rfl, agreed.waitExpiryOp _⟩
  case sweepStep => exact ⟨_, rfl, agreed.sweepStepOp⟩
  case waitStep => exact ⟨_, rfl, agreed.waitStepOp jobs⟩
  case holdStep => exact ⟨_, rfl, agreed.holdStepOp⟩
  case flushStep => exact ⟨_, rfl, agreed.flushStepOp⟩
  case clientJobFinalStep => exact ⟨_, rfl, agreed.clientJobFinalOp jobs⟩
  case agentJobFinalStep => exact ⟨_, rfl, agreed.agentJobFinalOp jobs⟩
  all_goals exact ⟨_, rfl, agreed.of_eq rfl rfl rfl rfl⟩

end

theorem State.Agreed.clockPeriod {s : State} (agreed : s.Agreed) : s.clockPeriod.Agreed := by
  unfold State.clockPeriod
  split
  · split
    · exact agreed.tick
    · exact agreed.of_eq rfl rfl rfl rfl
  · exact agreed

/-- A step from a sound state keeps the laws of waits, clients and holds: the jobs that its command meets are
those of the state. -/
theorem State.Sound.step_agreed {s t : State} (h : s.Sound) (ht : step s = .next t) : t.Agreed := by
  unfold step at ht
  split at ht
  · obtain rfl := Host.Outcome.next.inj ht
    exact h.agreed.clockPeriod
  · next i rest _ =>
    have taken : State.Agreed { s with pending := rest } := h.agreed.of_eq rfl rfl rfl rfl
    obtain ⟨u, hu, agreed⟩ := exec_agreed i taken h.jobs
    obtain rfl : u = t := Host.Outcome.next.inj (hu.symm.trans ht)
    exact agreed

/-- Settles O49: every step keeps the laws of waits, clients and holds together. -/
theorem queuesAndWaitRecordsStayInAgreement : Obligations.QueuesAndWaitRecordsStayInAgreement := by
  intro s t h ht
  obtain ⟨waits, clients, -⟩ := t.agreed_iff.1 (h.step_agreed ht)
  exact ⟨waits, clients⟩

/-- Settles O50, likewise. -/
theorem holdPoolLawsAreKept : Obligations.HoldPoolLawsAreKept := by
  intro s t h ht
  obtain ⟨-, -, pool⟩ := t.agreed_iff.1 (h.step_agreed ht)
  exact pool

end Sys2Proof.Machine
end

section
/-! The result registers (R27): a command writes that of its own client at most, the resets excepted. -/

namespace Sys2Proof.Machine

/-! ### The relation and how it composes -/

/-- Every client's result register is in `t` as it is in `s`, that of the client `own` excepted. -/
structure State.ResultsKept (own : Option ClientId) (t s : State) : Prop where
  result : ∀ c, own ≠ some c → (t.client c).result = (s.client c).result

section
variable {own : Option ClientId} {r s t : State}

theorem State.ResultsKept.refl (s : State) : s.ResultsKept own s := ⟨fun _ _ => rfl⟩

theorem State.ResultsKept.trans (h₂ : t.ResultsKept own s) (h₁ : s.ResultsKept own r) :
    t.ResultsKept own r :=
  ⟨fun c hc => (h₂.result c hc).trans (h₁.result c hc)⟩

theorem State.ResultsKept.of_results (h : ∀ c, (t.client c).result = (s.client c).result) :
    t.ResultsKept own s :=
  ⟨fun c _ => h c⟩

theorem State.ResultsKept.of_clients (h : t.clients = s.clients) : t.ResultsKept own s :=
  .of_results fun c => by rw [State.client, h, State.client]

/-- A change of no client context may follow. -/
theorem State.ResultsKept.congr (h : s.ResultsKept own r) (clients : t.clients = s.clients) :
    t.ResultsKept own r :=
  .trans (.of_clients clients) h

theorem State.ResultsKept.foldl {α : Type} {f : State → α → State} (h : ∀ s x, (f s x).ResultsKept own s)
    (l : List α) (s : State) : (l.foldl f s).ResultsKept own s := by
  induction l generalizing s with
  | nil => exact .refl s
  | cons x l ih => exact (ih _).trans (h s x)

theorem State.setClient_resultsKept {c : ClientId} {x : Client} (h : x.result = (s.client c).result) :
    (s.setClient c x).ResultsKept own s := by
  refine .of_results fun d => ?_
  rw [State.setClient_client]
  split
  · next hd => rw [h, hd]
  · rfl

/-! ### The procedures -/

theorem State.answer_resultsKept (s : State) (o : Origin) (x : Result) (n : LockId) (g : BitVec 16) :
    (s.answer o x n g).ResultsKept (some o.client) s := by
  refine ⟨fun c hc => ?_⟩
  rw [State.answer_client, if_neg fun e => hc (congrArg some e.symm)]

theorem State.grantEval_resultsKept (s : State) (n : LockId) : (s.grantEval n).ResultsKept own s :=
  .of_results (s.grantEval_frame n).result

theorem State.WaitEnded.resultsKept {c : ClientId} {n : LockId} {st : ClientState} {e : WaitEnd}
    {notice : Option Notice} (h : t.WaitEnded s c n st e notice) : t.ResultsKept own s := by
  obtain ⟨client, others, -⟩ := h
  refine .of_results fun d => ?_
  by_cases hd : d = c
  · rw [hd, client]
  · rw [others d hd]

theorem State.endWaitReported_resultsKept (s : State) (c : ClientId) (n : LockId) (e : WaitEnd) (x : WaitEndReason) :
    (s.endWaitReported c n e x).ResultsKept own s :=
  (s.endWaitReported_waitEnded c n e x).resultsKept

theorem State.passUnreserved_resultsKept (s : State) (x : Hold) (revoked : Bool) :
    (s.passUnreserved x.client (x.notice revoked)).ResultsKept own s := by
  obtain ⟨-, -, frame⟩ := s.passUnreserved_noticePassed x revoked
  exact .of_clients (by rw [frame])

theorem State.setRevoked_resultsKept (s : State) (c : ClientId) (n : LockId) (b : Bool) :
    (s.setRevoked c n b).ResultsKept own s :=
  State.setClient_resultsKept rfl

theorem State.createHold_resultsKept (s : State) (c : ClientId) (n : LockId) (m : Mode) :
    (s.createHold c n m).ResultsKept own s :=
  .trans (State.setRevoked_resultsKept _ c n false) (.of_clients rfl)

theorem State.enqueue_resultsKept (s : State) (c : ClientId) (n : LockId) (m : Mode) (p : Priority) :
    (s.enqueue c n m p).ResultsKept own s := by
  refine .of_results fun d => ?_
  by_cases hd : d = c
  · rw [hd, State.enqueue_client]
  · rw [State.enqueue_client_of_ne s c n m p hd]

theorem State.removeHold_resultsKept (s : State) (x : Hold) (alone : LockState) :
    (s.removeHold x alone).ResultsKept own s :=
  .of_clients rfl

theorem State.revoke_resultsKept (s : State) (x : Hold) : (s.revoke x).ResultsKept own s :=
  (State.grantEval_resultsKept _ x.lock).trans ((State.passUnreserved_resultsKept _ x true).trans
    ((State.setRevoked_resultsKept _ x.client x.lock true).trans (s.removeHold_resultsKept x .orphaned)))

theorem State.makeDead_resultsKept (s : State) (c : ClientId) (n : LockId) :
    (s.makeDead c n).ResultsKept own s := by
  have flushed : ∀ u : State, (u.deadFlush n).ResultsKept own u := fun u =>
    .foldl (fun v d => v.endWaitReported_resultsKept d n .flushed .dead) _ u
  exact .trans (.congr (flushed _) rfl) (.of_clients rfl)

end

/-! ### Commands of clients -/

section
variable (s : State) (o : Origin) (n : LockId)

theorem State.acquireOp_resultsKept (m : Mode) (k : Kind) (p : Priority) :
    (s.acquireOp o n m k p).ResultsKept (some o.client) s := by
  unfold State.acquireOp
  split
  · exact s.answer_resultsKept ..
  · exact (State.answer_resultsKept ..).trans (s.createHold_resultsKept o.client n m)
  · exact (State.grantEval_resultsKept _ n).trans
      ((State.answer_resultsKept ..).trans (s.enqueue_resultsKept o.client n m p))

theorem State.releaseOp_resultsKept : (s.releaseOp o n).ResultsKept (some o.client) s := by
  unfold State.releaseOp
  split
  · exact s.answer_resultsKept ..
  · split
    · split
      · exact (State.answer_resultsKept ..).trans (s.setRevoked_resultsKept o.client n false)
      · exact s.answer_resultsKept ..
    · next x _ =>
      split
      · exact (State.answer_resultsKept ..).trans (s.makeDead_resultsKept o.client n)
      · exact (State.answer_resultsKept ..).trans
          ((State.grantEval_resultsKept _ n).trans (s.removeHold_resultsKept x .free))

theorem State.markCleanOp_resultsKept : (s.markCleanOp o n).ResultsKept (some o.client) s := by
  unfold State.markCleanOp
  split
  · exact s.answer_resultsKept ..
  · split
    · split <;> exact s.answer_resultsKept ..
    · split
      · exact (State.answer_resultsKept ..).trans (.of_clients rfl)
      · exact s.answer_resultsKept ..

theorem State.cancelOp_resultsKept : (s.cancelOp o).ResultsKept (some o.client) s := by
  unfold State.cancelOp
  split
  · exact s.answer_resultsKept ..
  · exact s.answer_resultsKept ..
  · split
    · exact s.answer_resultsKept ..
    · next w _ =>
      exact (State.grantEval_resultsKept _ w.lock).trans ((State.answer_resultsKept ..).trans
        (.trans (State.setClient_resultsKept rfl) (s.cancelWait_waitEnded o.client w.lock).resultsKept))
  · split <;> exact s.answer_resultsKept ..

theorem State.renewOp_resultsKept : (s.renewOp o n).ResultsKept (some o.client) s := by
  unfold State.renewOp
  split
  · exact s.answer_resultsKept ..
  · split
    · split <;> exact s.answer_resultsKept ..
    · split
      · exact s.answer_resultsKept ..
      · exact State.ResultsKept.trans (State.answer_resultsKept ..) (.of_clients rfl)

theorem State.mailOp_resultsKept (target : AgentId) (payload : BitVec 16) :
    (s.mailOp o target payload).ResultsKept (some o.client) s := by
  unfold State.mailOp
  split_ifs
  case neg => exact (State.answer_resultsKept ..).trans (.of_clients rfl)
  all_goals exact s.answer_resultsKept ..

end

/-! ### Commands of no client -/

section
variable {own : Option ClientId} (s : State)

theorem State.warnHold_resultsKept (x : Hold) (countdown : Countdown) (phase : Phase) :
    (s.warnHold x countdown phase).ResultsKept own s :=
  (s.passUnreserved_resultsKept x false).congr rfl

theorem State.expireHold_resultsKept (x : Hold) : (s.expireHold x).ResultsKept own s := by
  unfold State.expireHold
  split
  · exact s.revoke_resultsKept x
  · split
    · exact s.warnHold_resultsKept ..
    · exact s.revoke_resultsKept x
    · split
      · exact s.revoke_resultsKept x
      · exact s.warnHold_resultsKept ..

theorem State.holdExpiryOp_resultsKept (c : ClientId) (n : LockId) :
    (s.holdExpiryOp c n).ResultsKept own s := by
  unfold State.holdExpiryOp
  split
  · exact .refl s
  · split
    · exact s.expireHold_resultsKept _
    · exact .refl s

theorem State.waitExpiryOp_resultsKept (c : ClientId) : (s.waitExpiryOp c).ResultsKept own s := by
  unfold State.waitExpiryOp
  split
  · exact .refl s
  · next w _ =>
    split
    · exact (State.grantEval_resultsKept _ w.lock).trans (s.endWaitReported_resultsKept c w.lock .expired .expired)
    · exact .refl s

theorem State.tick_resultsKept : s.tick.ResultsKept own s := by
  refine .of_results fun c => ?_
  rw [State.tick, State.mapClients_client]
  rfl

theorem State.Attached.resultsKept {s t : State} {a : AgentId} (h : t.Attached s a) :
    t.ResultsKept own s := by
  obtain ⟨-, -, client, -⟩ := h
  refine .of_results fun c => ?_
  rw [client]
  split <;> rfl

theorem State.attachAgent_resultsKept (a : AgentId) : (s.attachAgent a).ResultsKept own s :=
  (s.attachAgent_attached a).resultsKept

theorem State.detachRequest_resultsKept (a : AgentId) (named : SlotSet) (scope : Scope) :
    (s.detachRequest a named scope).ResultsKept own s := by
  obtain ⟨set, u, -, made, placed, -⟩ := s.detachRequest_requested a named scope
  have detaching : u.ResultsKept own s := .of_results fun c => by
    rcases made.client c with e | e <;> rw [e]
  exact ((State.ResultsKept.foldl State.grantEval_resultsKept _ u).trans detaching).congr (by rw [placed])

theorem State.assertLine_resultsKept (a : AgentId) : (s.assertLine a).ResultsKept own s := by
  unfold State.assertLine
  split
  · exact .refl s
  · dsimp only
    split
    · exact (State.detachRequest_resultsKept _ a everySlot .agent).trans (.of_clients rfl)
    · exact .of_clients rfl

theorem State.deassertLine_resultsKept (a : AgentId) : (s.deassertLine a).ResultsKept own s := by
  unfold State.deassertLine
  split
  · exact .refl s
  · dsimp only
    split
    · exact (State.attachAgent_resultsKept _ a).trans (.of_clients rfl)
    · exact .of_clients rfl

theorem State.waitStepOp_resultsKept : s.waitStepOp.ResultsKept own s := by
  unfold State.waitStepOp
  split
  · next j sl _ =>
    have reclaimed : (s.reclaimWait (clientOf j.agent sl)).ResultsKept own s := by
      unfold State.reclaimWait
      split
      · exact .refl s
      · exact (State.grantEval_resultsKept _ _).trans (s.cancelWait_waitEnded _ _).resultsKept
    exact reclaimed.congr rfl
  · exact .refl s

theorem State.holdStepOp_resultsKept : s.holdStepOp.ResultsKept own s := by
  unfold State.holdStepOp
  split
  · split
    · exact .of_clients rfl
    · next x _ => exact (State.grantEval_resultsKept _ x.lock).trans (s.removeHold_resultsKept x .orphaned)
  · exact .refl s

theorem State.flushStepOp_resultsKept : s.flushStepOp.ResultsKept own s := by
  unfold State.flushStepOp
  split
  · exact .of_clients rfl
  · exact .refl s

theorem State.endJob_resultsKept : s.endJob.ResultsKept own s := by
  obtain ⟨frame, -⟩ := s.endJob_jobEnded
  exact .of_clients (by rw [frame])

theorem State.clientJobFinalOp_resultsKept : s.clientJobFinalOp.ResultsKept own s := by
  have ended : ∀ j, (s.endClientJob j).ResultsKept own s := fun j => by
    unfold State.endClientJob
    split
    · refine .foldl (fun u sl => ?_) _ s
      rw [State.returnClient_eq]
      exact State.setClient_resultsKept rfl
    · exact .of_clients rfl
    · exact .refl s
  unfold State.clientJobFinalOp
  split
  · next j _ =>
    split
    · exact (State.endJob_resultsKept _).trans (ended j)
    · exact .refl s
  · exact .refl s

theorem State.endAgentJob_resultsKept (a : AgentId) : (s.endAgentJob a).ResultsKept own s := by
  have off : (allSlots.foldl (fun s sl => s.turnOffClient (clientOf a sl)) s).ResultsKept own s :=
    .foldl (fun u sl => u.turnOffClient_eq (clientOf a sl) ▸ State.setClient_resultsKept rfl) _ s
  unfold State.endAgentJob
  dsimp only
  split
  · exact (State.attachAgent_resultsKept _ a).trans (off.congr rfl)
  · exact off.congr rfl

theorem State.agentJobFinalOp_resultsKept : s.agentJobFinalOp.ResultsKept own s := by
  unfold State.agentJobFinalOp
  split
  · next j _ =>
    split
    · exact (State.endJob_resultsKept _).trans (s.endAgentJob_resultsKept j.agent)
    · exact .refl s
  · exact .refl s

theorem State.sweepStepOp_resultsKept : s.sweepStepOp.ResultsKept own s := by
  have swept : (s.sweepLock s.su.sweep.position).ResultsKept own s := by
    unfold State.sweepLock
    split
    · exact .refl s
    · exact s.grantEval_resultsKept _
  unfold State.sweepStepOp
  split
  · dsimp only
    split <;> exact swept.congr rfl
  · exact .refl s

theorem State.writePlain_resultsKept (r : PlainReg) (w : Word) : (s.writePlain r w).ResultsKept own s := by
  cases r
  case waitlim => exact State.setClient_resultsKept rfl
  all_goals exact .of_clients rfl

end

/-! ### Every command -/

/-- The commands that write every result register. -/
def resetsResults : Instr → Bool
  | .softReset _ => true
  | .powerOnReset _ => true
  | _ => false

section
variable {own : Option ClientId} (s : State)

theorem exec_accessMisuse_resultsKept (access : BusAccess) :
    ∃ t, exec (.accessMisuse access) s = .next t ∧ t.ResultsKept own s := by
  show ∃ t, execAccessMisuse access s = .next t ∧ t.ResultsKept own s
  unfold execAccessMisuse
  cases access.write <;> exact ⟨_, rfl, .of_clients rfl⟩

theorem exec_detachClient_resultsKept (number : Fin 64) :
    ∃ t, exec (.detachClient number) s = .next t ∧ t.ResultsKept own s := by
  refine ⟨_, rfl, ?_⟩
  split
  · exact (s.detachRequest_resultsKept (agentOf (clientOfNumber number)) (onlySlot (slotOf (clientOfNumber number)))
      .client).congr rfl
  · exact .of_clients rfl

theorem exec_detachAgent_resultsKept (number : Fin 64) :
    ∃ t, exec (.detachAgent number) s = .next t ∧ t.ResultsKept own s := by
  refine ⟨_, rfl, ?_⟩
  split
  · exact (s.detachRequest_resultsKept (agentOfNumber number) everySlot .agent).congr rfl
  · exact .of_clients rfl
  · exact .of_clients rfl

theorem exec_attach_resultsKept (number : Fin 64) :
    ∃ t, exec (.attach number) s = .next t ∧ t.ResultsKept own s := by
  refine ⟨_, rfl, ?_⟩
  split
  · exact .of_clients rfl
  · exact .of_clients rfl
  · split
    · exact .of_clients rfl
    · exact (s.attachAgent_resultsKept (agentOfNumber number)).congr rfl

theorem exec_tick_resultsKept : ∃ t, exec .tick s = .next t ∧ t.ResultsKept own s := by
  refine ⟨_, rfl, ?_⟩
  split
  · exact s.tick_resultsKept
  · exact .refl s

end

/-- Every command but the resets keeps every result register but that of the client it acts for. -/
theorem exec_resultsKept {i : Instr} (hi : resetsResults i = false) (s : State) :
    ∃ t, exec i s = .next t ∧ t.ResultsKept ((s.originOf i).map Origin.client) s := by
  cases i
  case softReset => cases hi
  case powerOnReset => cases hi
  case acquire => exact ⟨_, rfl, s.acquireOp_resultsKept ..⟩
  case release => exact ⟨_, rfl, s.releaseOp_resultsKept ..⟩
  case cancel => exact ⟨_, rfl, s.cancelOp_resultsKept _⟩
  case renew => exact ⟨_, rfl, s.renewOp_resultsKept ..⟩
  case markClean => exact ⟨_, rfl, s.markCleanOp_resultsKept ..⟩
  case mail => exact ⟨_, rfl, s.mailOp_resultsKept ..⟩
  case badOpcode => exact ⟨_, rfl, s.answer_resultsKept ..⟩
  case claimRead a n =>
    exact ⟨_, rfl, (s.acquireOp_resultsKept (Origin.claimRead a (s.window a) n) n .exclusive .tryOnce
      (s.window a).priority).congr rfl⟩
  case claimWrite => exact ⟨_, rfl, s.releaseOp_resultsKept ..⟩
  case accessMisuse access => exact exec_accessMisuse_resultsKept s access
  case registerWrite => exact ⟨_, rfl, s.writePlain_resultsKept ..⟩
  case setcfg n => exact ⟨_, exec_setcfg n s, .of_clients rfl⟩
  case online n => exact ⟨_, exec_online n s, .of_clients rfl⟩
  case offline n => exact ⟨_, exec_offline n s, .of_clients rfl⟩
  case restore n => exact ⟨_, exec_restore n s, .of_clients rfl⟩
  case detachClient number => exact exec_detachClient_resultsKept s number
  case detachAgent number => exact exec_detachAgent_resultsKept s number
  case attach number => exact exec_attach_resultsKept s number
  case resetAssertion => exact ⟨_, rfl, s.assertLine_resultsKept _⟩
  case resetDeassertion => exact ⟨_, rfl, s.deassertLine_resultsKept _⟩
  case tick => exact exec_tick_resultsKept s
  case holdExpiry => exact ⟨_, rfl, s.holdExpiryOp_resultsKept ..⟩
  case waitExpiry => exact ⟨_, rfl, s.waitExpiryOp_resultsKept _⟩
  case sweepStep => exact ⟨_, rfl, s.sweepStepOp_resultsKept⟩
  case waitStep => exact ⟨_, rfl, s.waitStepOp_resultsKept⟩
  case holdStep => exact ⟨_, rfl, s.holdStepOp_resultsKept⟩
  case flushStep => exact ⟨_, rfl, s.flushStepOp_resultsKept⟩
  case clientJobFinalStep => exact ⟨_, rfl, s.clientJobFinalOp_resultsKept⟩
  case agentJobFinalStep => exact ⟨_, rfl, s.agentJobFinalOp_resultsKept⟩
  all_goals exact ⟨_, rfl, .of_clients rfl⟩

/-- Settles O13: a client whose result register a command changes is the command's own, or the command is one
of the two resets. -/
theorem resultRegistersAreWrittenByOwnCommandsOnly : Obligations.ResultRegistersAreWrittenByOwnCommandsOnly := by
  intro i s t c ht changed
  cases hi : resetsResults i
  case false =>
    obtain ⟨u, hu, kept⟩ := exec_resultsKept hi s
    obtain rfl : u = t := Host.Outcome.next.inj (hu.symm.trans ht)
    have own : (s.originOf i).map Origin.client = some c := by
      by_contra other
      exact changed (kept.result c other)
    exact .inl (Option.map_eq_some_iff.1 own)
  case true =>
    cases i <;> cases hi
    case softReset number => exact .inr (.inl ⟨number, rfl⟩)
    case powerOnReset levels => exact .inr (.inr ⟨levels, rfl⟩)

end Sys2Proof.Machine
end

section
/-! The mark and the client ceiling of a client (R15, R23, R24). -/

namespace Sys2Proof.Machine

/-! ### The mark (R23) -/

theorem State.betterMark_some (s : State) (m : LockId) (h : Hold) :
    s.betterMark (some m) h = some (if s.rankKey h.lock < s.rankKey m then h.lock else m) := by
  simp only [State.betterMark, s.ranksAbove_iff]
  split <;> rfl

/-- Going through a list of holds from a first best, one comes to the highest-ranked of them and it. -/
theorem State.foldl_betterMark (s : State) (hs : List Hold) (m : LockId) :
    ∃ n, hs.foldl s.betterMark (some m) = some n ∧ (n = m ∨ ∃ h ∈ hs, h.lock = n)
      ∧ s.rankKey n ≤ s.rankKey m ∧ ∀ h ∈ hs, s.rankKey n ≤ s.rankKey h.lock := by
  induction hs generalizing m with
  | nil => exact ⟨m, rfl, .inl rfl, le_rfl, by simp⟩
  | cons x hs ih =>
    rw [List.foldl_cons, State.betterMark_some]
    obtain ⟨n, fold, found, best, least⟩ := ih (if s.rankKey x.lock < s.rankKey m then x.lock else m)
    have better : s.rankKey n ≤ s.rankKey m ∧ s.rankKey n ≤ s.rankKey x.lock := by
      split at best <;> omega
    refine ⟨n, fold, ?_, better.1, List.forall_mem_cons.2 ⟨better.2, least⟩⟩
    rcases found with found | ⟨h, hh, lock⟩
    · split at found
      · exact .inr ⟨x, List.mem_cons_self, found.symm⟩
      · exact .inl found
    · exact .inr ⟨h, List.mem_cons_of_mem x hh, lock⟩

/-- The mark is a held lock that no held lock ranks above, and there is none only where nothing is held. -/
theorem State.mark_spec (s : State) (c : ClientId) :
    (s.heldList c = [] ∧ s.mark c = none)
      ∨ ∃ n, s.mark c = some n ∧ (∃ h ∈ s.heldList c, h.lock = n)
        ∧ ∀ h ∈ s.heldList c, s.rankKey n ≤ s.rankKey h.lock := by
  unfold State.mark
  cases s.heldList c with
  | nil => exact .inl ⟨rfl, rfl⟩
  | cons x hs =>
    obtain ⟨n, fold, found, best, least⟩ := s.foldl_betterMark hs x.lock
    refine .inr ⟨n, fold, ?_, List.forall_mem_cons.2 ⟨best, least⟩⟩
    rcases found with rfl | ⟨h, hh, lock⟩
    · exact ⟨x, List.mem_cons_self, rfl⟩
    · exact ⟨h, List.mem_cons_of_mem x hh, lock⟩

/-! ### The client ceiling (R24) -/

/-- The values whose least is the client ceiling: the ceilings of the held locks and the priorities queued on
them (R24). -/
def State.ceilingValues (s : State) (c : ClientId) : List Nat :=
  (s.heldList c).flatMap fun h => (s.lock h.lock).config.ceiling.val :: s.queuedPriorities h.lock

/-- The client ceiling is the least of these values and 16. -/
theorem State.clientCeiling_least (s : State) (c : ClientId) :
    (s.clientCeiling c = 16 ∨ s.clientCeiling c ∈ s.ceilingValues c)
      ∧ ∀ v ∈ s.ceilingValues c, s.clientCeiling c ≤ v := by
  have least : (16 :: s.ceilingValues c).min? = some (s.clientCeiling c) := List.min?_cons'
  obtain ⟨attained, le⟩ := List.min?_eq_some_iff.1 least
  exact ⟨List.mem_cons.1 attained, fun v hv => le v (List.mem_cons_of_mem 16 hv)⟩

theorem State.mem_queuedPriorities (s : State) (n : LockId) (v : Nat) :
    v ∈ s.queuedPriorities n ↔ ∃ d ∈ (s.lock n).queue, ∃ w, (s.client d).wait = some w ∧ v = w.priority.val := by
  simp only [State.queuedPriorities, List.mem_filterMap, Option.map_eq_some_iff, @eq_comm _ v]

theorem State.mem_ceilingValues (s : State) (c : ClientId) (v : Nat) :
    v ∈ s.ceilingValues c ↔
      ∃ h ∈ s.heldList c, v = (s.lock h.lock).config.ceiling.val
        ∨ ∃ d ∈ (s.lock h.lock).queue, ∃ w, (s.client d).wait = some w ∧ v = w.priority.val := by
  simp only [State.ceilingValues, List.mem_flatMap, List.mem_cons, State.mem_queuedPriorities]

/-- Settles O28: the mark is the best of the held list, the client ceiling the least of its values. -/
theorem markAndClientCeiling : Obligations.MarkAndClientCeiling := by
  intro s c key
  have key_eq : ∀ n, key n = s.rankKey n := fun n => by
    have bound := n.isLt
    simp only [key, State.rankKey]
    omega
  obtain ⟨attained, least⟩ := s.clientCeiling_least c
  simp only [key_eq]
  refine ⟨?_, ?_, fun none => ?_, fun h hh => ⟨?_, fun d hd w hw => ?_⟩, fun some => ?_⟩
  · rcases s.mark_spec c with ⟨none, mark⟩ | ⟨n, mark, ⟨h, hh, -⟩, -⟩
    · simp [none, mark]
    · simp [mark, List.ne_nil_of_mem hh]
  · intro n hn
    rcases s.mark_spec c with ⟨-, mark⟩ | ⟨m, mark, held, best⟩
    · simp [mark] at hn
    · obtain rfl : m = n := Option.some.inj (mark.symm.trans hn)
      exact ⟨held, best⟩
  · rw [State.clientCeiling, none]
    rfl
  · exact least _ ((s.mem_ceilingValues c _).2 ⟨h, hh, .inl rfl⟩)
  · exact least _ ((s.mem_ceilingValues c _).2 ⟨h, hh, .inr ⟨d, hd, w, hw, rfl⟩⟩)
  · obtain ⟨h, hh⟩ := List.exists_mem_of_ne_nil _ some
    have ceiling := least _ ((s.mem_ceilingValues c _).2 ⟨h, hh, .inl rfl⟩)
    have bound := (s.lock h.lock).config.ceiling.isLt
    exact (s.mem_ceilingValues c _).1 (attained.resolve_left (by omega))

end Sys2Proof.Machine
end

section
/-! Grant evaluation: which waiters it chooses (R45, R65), and the closed form of what it leaves (R46, R47). -/

namespace Sys2Proof.Machine

/-! ### The waiters chosen (R45) -/

theorem State.waitsShared_eq_false_iff (s : State) (c : ClientId) :
    s.waitsShared c = false ↔ s.waitMode c = .exclusive := by
  rw [← Bool.not_eq_true, s.waitsShared_iff]
  cases s.waitMode c <;> simp

/-- The SHARED waiters ahead of the first EXCLUSIVE one are those that `takeWhile` takes. -/
theorem State.takeWhile_waitsShared {s : State} {l r : List ClientId} (shared : ∀ c ∈ l, s.waitMode c = .shared)
    (writer : ∀ c, r.head? = some c → s.waitMode c = .exclusive) : (l ++ r).takeWhile s.waitsShared = l := by
  rw [List.takeWhile_append_of_pos fun c hc => (s.waitsShared_iff c).2 (shared c hc)]
  cases r with
  | nil => simp
  | cons c r => simp [(s.waitsShared_eq_false_iff c).2 (writer c rfl)]

theorem State.waitersToGrant_free_exclusive {s : State} {n : LockId} {c : ClientId} {r : List ClientId}
    (free : (s.lock n).state = .free) (e : s.eligibleWaiters n = c :: r) (writer : s.waitMode c = .exclusive) :
    s.waitersToGrant n = [c] := by
  rw [State.waitersToGrant_free_cons free e, (s.waitsShared_eq_false_iff c).2 writer]
  rfl

theorem State.waitersToGrant_free_shared {s : State} {n : LockId} {l r : List ClientId}
    (free : (s.lock n).state = .free) (e : s.eligibleWaiters n = l ++ r)
    (shared : ∀ c ∈ l, s.waitMode c = .shared) (writer : ∀ c, r.head? = some c → s.waitMode c = .exclusive)
    (nil : l = [] → r = []) : s.waitersToGrant n = l := by
  cases l with
  | nil => exact State.waitersToGrant_free_nil free (by rw [e, nil rfl, List.append_nil])
  | cons c l =>
    rw [State.waitersToGrant_free_cons free e, (s.waitsShared_iff c).2 (shared c List.mem_cons_self)]
    exact State.takeWhile_waitsShared shared writer

/-- Settles O14, by the lock's state. -/
theorem grantEvaluationChoosesAheadOfTheFirstWriter :
    Obligations.GrantEvaluationChoosesAheadOfTheFirstWriter := by
  intro s n q st
  refine ⟨fun c => ?_, List.filter_sublist, State.waitersToGrant_closed, State.waitersToGrant_orphaned,
    fun free c r e writer => State.waitersToGrant_free_exclusive free e writer,
    fun state l r e shared writer nil => ?_⟩
  · rw [s.mem_eligibleWaiters, s.eligible_iff]
  · rcases state with free | share
    · exact State.waitersToGrant_free_shared free e shared writer fun h =>
        (nil h).resolve_right fun h => by simp [free] at h
    · rw [State.waitersToGrant_shared share, show s.eligibleWaiters n = l ++ r from e]
      exact State.takeWhile_waitsShared shared writer

/-! ### One grant, part by part (R46) -/

section
variable {s : State} {n : LockId} {c : ClientId} {w : WaitRecord}

theorem State.grantWaiter_lock (hw : (s.client c).wait = some w) :
    (s.grantWaiter n c).lock n =
      { s.lock n with
        state := stateAfterGrant (s.lock n).state w.mode
        queue := (s.lock n).queue.erase c
        generation := (s.lock n).generation + 1
        cleanPending := (s.lock n).state == .orphaned } := by
  rw [State.grantWaiter_eq hw]
  simp [State.lock, vector_get_set]

theorem State.grantWaiter_pool (hw : (s.client c).wait = some w) :
    (s.grantWaiter n c).pool =
      s.pool.erase (.reservation c n) ++ [.hold (s.newHold c n w.mode ((s.lock n).generation + 1))] := by
  rw [State.grantWaiter_eq hw]

theorem State.grantWaiter_client (hw : (s.client c).wait = some w) :
    (s.grantWaiter n c).client c =
      { s.client c with
        state := .ready
        wait := none
        lastWaitEnd := .granted
        revoked := (s.client c).revoked.set n false } := by
  rw [State.grantWaiter_eq hw]
  simp [State.client, vector_get_set]

theorem State.grantWaiter_nu (hw : (s.client c).wait = some w) (a : AgentId) :
    (s.grantWaiter n c).nu a =
      if a = agentOf c then
        { s.nu a with
          queue :=
            (s.nu a).queue
              ++ [.granted (slotOf c) n w.mode ((s.lock n).state == .orphaned) ((s.lock n).generation + 1)]
          reserved := (s.nu a).reserved - 1 }
      else s.nu a := by
  rw [State.grantWaiter_eq hw]
  simp only [State.nu, vector_get_set]
  split
  · next ha => rw [ha]
  · rfl

theorem State.grantWaiter_waitMode_of_ne {d : ClientId} (hd : d ≠ c) :
    (s.grantWaiter n c).waitMode d = s.waitMode d := by
  rw [State.waitMode, s.grantWaiter_client_of_ne n hd, State.waitMode]

end

/-! ### The closed form, part by part -/

/-- The hold of the grantee `g.1` that stands at place `g.2` among those granted, counting from 1 (R46). -/
def State.grantedHold (s : State) (n : LockId) (g : ClientId × Nat) : Hold :=
  s.newHold g.1 n (s.waitMode g.1) ((s.lock n).generation + BitVec.ofNat 16 g.2)

/-- Its GRANTED notice (R46). -/
def State.grantedNotice (s : State) (n : LockId) (g : ClientId × Nat) : Notice :=
  .granted (slotOf g.1) n (s.waitMode g.1) ((s.lock n).state == .orphaned)
    ((s.lock n).generation + BitVec.ofNat 16 g.2)

section
variable (s : State) (n : LockId) (cs : List ClientId)

theorem State.afterGrants_lock_of_ne {m : LockId} (hm : m ≠ n) : (s.afterGrants n cs).lock m = s.lock m := by
  cases cs with
  | nil => rfl
  | cons c cs => simp [State.afterGrants, State.lock, vector_get_set, hm]

theorem State.afterGrants_lock_cons (c : ClientId) :
    (s.afterGrants n (c :: cs)).lock n =
      { s.lock n with
        state := grantedState (s.lock n).state (s.waitMode c)
        queue := (s.lock n).queue.filter fun d => !(c :: cs).contains d
        generation := (s.lock n).generation + BitVec.ofNat 16 (c :: cs).length
        cleanPending := (s.lock n).state == .orphaned } := by
  simp [State.afterGrants, State.lock, vector_get_set]

theorem State.afterGrants_pool :
    (s.afterGrants n cs).pool =
      withoutReservations n cs s.pool ++ (cs.zipIdx 1).map fun g => .hold (s.grantedHold n g) := rfl

theorem State.afterGrants_client (d : ClientId) :
    (s.afterGrants n cs).client d =
      if d ∈ cs then
        { s.client d with
          state := .ready
          wait := none
          lastWaitEnd := .granted
          revoked := (s.client d).revoked.set n false }
      else s.client d := by
  simp [State.afterGrants, State.client]

theorem State.afterGrants_nu (a : AgentId) :
    (s.afterGrants n cs).nu a =
      { s.nu a with
        queue := (s.nu a).queue ++ ((cs.zipIdx 1).filter fun g => agentOf g.1 == a).map (s.grantedNotice n)
        reserved := (s.nu a).reserved - cs.countP fun c => agentOf c == a } :=
  vector_get_ofFn _ _

theorem State.afterGrants_frame :
    s.afterGrants n cs =
      { s with
        locks := (s.afterGrants n cs).locks
        pool := (s.afterGrants n cs).pool
        clients := (s.afterGrants n cs).clients
        notices := (s.afterGrants n cs).notices } := rfl

end

/-- No grant at all changes nothing. -/
theorem State.afterGrants_nil (s : State) (n : LockId) : s.afterGrants n [] = s := by
  have clients : (s.afterGrants n []).clients = s.clients :=
    State.clients_ext fun c => by rw [State.afterGrants_client]; simp
  have notices : (s.afterGrants n []).notices = s.notices :=
    State.notices_ext fun a => by rw [State.afterGrants_nu]; simp
  have pool : (s.afterGrants n []).pool = s.pool := by rw [State.afterGrants_pool]; simp [withoutReservations]
  rw [State.afterGrants_frame, clients, notices, pool]
  rfl

/-! ### The waiters granted together -/

/-- Waiters that one grant evaluation may grant, of a queue without repeats (R60): none of them stands twice, each
waits in a mode the lock's state admits, and there is more than one only where all of them are SHARED (R45). -/
structure State.GrantBatch (s : State) (n : LockId) (cs : List ClientId) : Prop where
  queue : (s.lock n).queue.Nodup
  nodup : cs.Nodup
  waits : ∀ c ∈ cs, (s.client c).wait.isSome = true
  admitted : ∀ c ∈ cs, (s.lock n).state.grantable (s.waitMode c) = true
  together : cs.length ≤ 1 ∨ ∀ c ∈ cs, s.waitMode c = .shared

theorem State.waitMode_of_wait {s : State} {c : ClientId} {w : WaitRecord} (hw : (s.client c).wait = some w) :
    s.waitMode c = w.mode := by
  rw [State.waitMode, hw]
  rfl

theorem stateAfterGrant_eq_grantedState {st : LockState} {m : Mode} (adm : st.grantable m = true) :
    stateAfterGrant st m = grantedState st m := by
  cases st <;> cases m <;> cases adm <;> rfl

/-- More than one waiter is granted only where the lock is FREE or SHARED, and all of them are SHARED. -/
theorem State.GrantBatch.shared {s : State} {n : LockId} {c d : ClientId} {cs : List ClientId}
    (batch : s.GrantBatch n (c :: cs)) (hd : d ∈ cs) :
    ((s.lock n).state = .free ∨ (s.lock n).state = .shared) ∧ ∀ e ∈ c :: cs, s.waitMode e = .shared := by
  have modes : ∀ e ∈ c :: cs, s.waitMode e = .shared := by
    refine batch.together.resolve_left fun len => ?_
    have pos := List.length_pos_of_mem hd
    rw [List.length_cons] at len
    omega
  have adm := batch.admitted c List.mem_cons_self
  rw [modes c List.mem_cons_self] at adm
  refine ⟨?_, modes⟩
  cases hs : (s.lock n).state <;> rw [hs] at adm <;> cases adm
  · exact .inl rfl
  · exact .inr rfl

section
variable {s : State} {n : LockId} {c : ClientId} {cs : List ClientId}

theorem State.GrantBatch.lock (batch : s.GrantBatch n (c :: cs)) :
    (s.grantWaiter n c).lock n =
      { s.lock n with
        state := grantedState (s.lock n).state (s.waitMode c)
        queue := (s.lock n).queue.erase c
        generation := (s.lock n).generation + 1
        cleanPending := (s.lock n).state == .orphaned } := by
  obtain ⟨w, hw⟩ := Option.isSome_iff_exists.1 (batch.waits c List.mem_cons_self)
  have adm := batch.admitted c List.mem_cons_self
  rw [State.waitMode_of_wait hw] at adm ⊢
  rw [State.grantWaiter_lock hw, stateAfterGrant_eq_grantedState adm]

theorem State.GrantBatch.ne (batch : s.GrantBatch n (c :: cs)) {d : ClientId} (hd : d ∈ cs) : d ≠ c := fun e =>
  (List.nodup_cons.1 batch.nodup).1 (e ▸ hd)

/-- Where another waiter is granted after the first, the first has left the lock SHARED. -/
theorem State.GrantBatch.state (batch : s.GrantBatch n (c :: cs)) {d : ClientId} (hd : d ∈ cs) :
    ((s.grantWaiter n c).lock n).state = .shared := by
  obtain ⟨-, modes⟩ := batch.shared hd
  rw [batch.lock, modes c List.mem_cons_self]
  rfl

/-- After the grant of the first, the others can still be granted. -/
theorem State.GrantBatch.tail (batch : s.GrantBatch n (c :: cs)) : (s.grantWaiter n c).GrantBatch n cs := by
  have mode : ∀ d ∈ cs, (s.grantWaiter n c).waitMode d = .shared := fun d hd => by
    obtain ⟨-, modes⟩ := batch.shared hd
    rw [State.grantWaiter_waitMode_of_ne (batch.ne hd), modes d (List.mem_cons_of_mem c hd)]
  refine ⟨?_, (List.nodup_cons.1 batch.nodup).2, fun d hd => ?_, fun d hd => ?_, .inr mode⟩
  · rw [batch.lock]
    exact batch.queue.erase c
  · rw [s.grantWaiter_client_of_ne n (batch.ne hd)]
    exact batch.waits d (List.mem_cons_of_mem c hd)
  · rw [batch.state hd, mode d hd]
    rfl

/-! ### One grant, and then the closed form for the others -/

theorem generation_succ (g : BitVec 16) (i : Nat) : g + 1 + BitVec.ofNat 16 i = g + BitVec.ofNat 16 (i + 1) := by
  rw [BitVec.add_assoc, BitVec.add_comm 1, BitVec.ofNat_add]
  rfl

/-- The suspect bit of the later notices is that of the first. -/
theorem State.GrantBatch.suspect (batch : s.GrantBatch n (c :: cs)) {d : ClientId} (hd : d ∈ cs) :
    (((s.grantWaiter n c).lock n).state == .orphaned) = ((s.lock n).state == .orphaned) := by
  obtain ⟨serving, -⟩ := batch.shared hd
  rw [batch.state hd]
  rcases serving with e | e <;> simp [e]

theorem State.GrantBatch.grantedHold (batch : s.GrantBatch n (c :: cs)) {d : ClientId} (hd : d ∈ cs) (i : Nat) :
    (s.grantWaiter n c).grantedHold n (d, i) = s.grantedHold n (d, i + 1) := by
  simp only [State.grantedHold, State.newHold, batch.lock, State.grantWaiter_waitMode_of_ne (batch.ne hd),
    generation_succ]

theorem State.GrantBatch.grantedNotice (batch : s.GrantBatch n (c :: cs)) {d : ClientId} (hd : d ∈ cs) (i : Nat) :
    (s.grantWaiter n c).grantedNotice n (d, i) = s.grantedNotice n (d, i + 1) := by
  simp only [State.grantedNotice, batch.suspect hd, State.grantWaiter_waitMode_of_ne (batch.ne hd)]
  rw [batch.lock, generation_succ]

theorem withoutReservations_append_hold (n : LockId) (cs : List ClientId) (p : List PoolRecord) (x : Hold) :
    withoutReservations n cs (p ++ [.hold x]) = withoutReservations n cs p ++ [.hold x] := by
  induction cs generalizing p with
  | nil => rfl
  | cons c cs ih =>
    have erase : (p ++ [PoolRecord.hold x]).erase (.reservation c n) = p.erase (.reservation c n) ++ [.hold x] := by
      rw [List.erase_append]
      split
      · rfl
      · next h => rw [List.erase_of_not_mem h, List.erase_of_not_mem (by simp)]
    simp only [withoutReservations, List.foldl_cons, erase]
    exact ih _

/-- A queue without repeats loses the first grantee and then the others. -/
theorem filter_erase_grants {q : List ClientId} (nd : q.Nodup) (c : ClientId) (cs : List ClientId) :
    (q.erase c).filter (fun d => !cs.contains d) = q.filter fun d => !(c :: cs).contains d := by
  rw [nd.erase_eq_filter, List.filter_filter]
  refine List.filter_congr fun d _ => ?_
  by_cases hd : d = c <;> simp [hd]

theorem State.GrantBatch.afterGrants_lock (batch : s.GrantBatch n (c :: cs)) :
    ((s.grantWaiter n c).afterGrants n cs).lock n = (s.afterGrants n (c :: cs)).lock n := by
  have queue := filter_erase_grants batch.queue c cs
  rw [State.afterGrants_lock_cons]
  cases cs with
  | nil =>
    rw [State.afterGrants_nil, batch.lock, ← queue]
    simp
  | cons d cs =>
    have hd : d ∈ d :: cs := List.mem_cons_self
    obtain ⟨-, modes⟩ := batch.shared hd
    have mode := (State.grantWaiter_waitMode_of_ne (n := n) (batch.ne hd)).trans (modes d (List.mem_cons_of_mem c hd))
    rw [State.afterGrants_lock_cons, batch.suspect hd, mode, modes c List.mem_cons_self, batch.lock, ← queue]
    simp only [generation_succ, List.length_cons, grantedState, if_true]

theorem State.GrantBatch.afterGrants_pool (batch : s.GrantBatch n (c :: cs)) :
    ((s.grantWaiter n c).afterGrants n cs).pool = (s.afterGrants n (c :: cs)).pool := by
  obtain ⟨w, hw⟩ := Option.isSome_iff_exists.1 (batch.waits c List.mem_cons_self)
  have later : (cs.zipIdx 1).map (fun g => PoolRecord.hold ((s.grantWaiter n c).grantedHold n g)) =
      (cs.zipIdx 2).map fun g => PoolRecord.hold (s.grantedHold n g) := by
    rw [List.zipIdx_succ (l := cs) (i := 1), List.map_map]
    exact List.map_congr_left fun g hg => congrArg _ (batch.grantedHold (List.fst_mem_of_mem_zipIdx hg) g.2)
  rw [State.afterGrants_pool, State.afterGrants_pool, later, State.grantWaiter_pool hw,
    withoutReservations_append_hold, List.append_assoc, ← State.waitMode_of_wait hw]
  rfl

theorem State.GrantBatch.afterGrants_client (batch : s.GrantBatch n (c :: cs)) (d : ClientId) :
    ((s.grantWaiter n c).afterGrants n cs).client d = (s.afterGrants n (c :: cs)).client d := by
  obtain ⟨w, hw⟩ := Option.isSome_iff_exists.1 (batch.waits c List.mem_cons_self)
  rw [State.afterGrants_client, State.afterGrants_client]
  by_cases hd : d = c
  · have hc := (List.nodup_cons.1 batch.nodup).1
    subst hd
    rw [if_neg hc, if_pos List.mem_cons_self, State.grantWaiter_client hw]
  · rw [s.grantWaiter_client_of_ne n hd]
    simp only [List.mem_cons, hd, false_or]

theorem State.GrantBatch.afterGrants_nu (batch : s.GrantBatch n (c :: cs)) (a : AgentId) :
    ((s.grantWaiter n c).afterGrants n cs).nu a = (s.afterGrants n (c :: cs)).nu a := by
  obtain ⟨w, hw⟩ := Option.isSome_iff_exists.1 (batch.waits c List.mem_cons_self)
  have later : ((cs.zipIdx 1).filter fun g => agentOf g.1 == a).map ((s.grantWaiter n c).grantedNotice n) =
      ((cs.zipIdx 2).filter fun g => agentOf g.1 == a).map (s.grantedNotice n) := by
    rw [List.zipIdx_succ (l := cs) (i := 1), List.filter_map, List.map_map]
    exact List.map_congr_left fun g hg =>
      batch.grantedNotice (List.fst_mem_of_mem_zipIdx (List.mem_of_mem_filter hg)) g.2
  have first : s.grantedNotice n (c, 1) =
      .granted (slotOf c) n w.mode ((s.lock n).state == .orphaned) ((s.lock n).generation + 1) := by
    rw [← State.waitMode_of_wait hw]
    rfl
  rw [State.afterGrants_nu, State.afterGrants_nu, later, State.grantWaiter_nu hw, List.zipIdx_cons]
  by_cases ha : a = agentOf c
  · subst ha
    simp [first, Nat.sub_sub, Nat.add_comm]
  · have hca : agentOf c ≠ a := fun e => ha e.symm
    simp [ha, hca]

theorem State.GrantBatch.afterGrants_grantWaiter (batch : s.GrantBatch n (c :: cs)) :
    (s.grantWaiter n c).afterGrants n cs = s.afterGrants n (c :: cs) := by
  obtain ⟨w, hw⟩ := Option.isSome_iff_exists.1 (batch.waits c List.mem_cons_self)
  have locks : ((s.grantWaiter n c).afterGrants n cs).locks = (s.afterGrants n (c :: cs)).locks := by
    refine State.locks_ext fun m => ?_
    by_cases hm : m = n
    · rw [hm, batch.afterGrants_lock]
    · rw [State.afterGrants_lock_of_ne _ n _ hm, State.afterGrants_lock_of_ne _ n _ hm, State.grantWaiter_eq hw]
      simp [State.lock, vector_get_set, hm]
  rw [State.afterGrants_frame, locks, batch.afterGrants_pool, State.clients_ext batch.afterGrants_client,
    State.notices_ext batch.afterGrants_nu, State.grantWaiter_eq hw]
  rfl

end

/-- The grants of a batch, one after the other, in closed form. -/
theorem State.GrantBatch.foldl_grantWaiter {s : State} {n : LockId} {cs : List ClientId}
    (batch : s.GrantBatch n cs) : cs.foldl (State.grantWaiter n) s = s.afterGrants n cs := by
  induction cs generalizing s with
  | nil => exact (s.afterGrants_nil n).symm
  | cons c cs ih => rw [List.foldl_cons, ih batch.tail, batch.afterGrants_grantWaiter]

/-- The waiters that grant evaluation chooses wait in modes that the lock's state admits. -/
theorem State.waitersToGrant_grantable (s : State) (n : LockId) {c : ClientId} (hc : c ∈ s.waitersToGrant n) :
    (s.lock n).state.grantable (s.waitMode c) = true := by
  obtain ⟨-, eligible⟩ := s.waitersToGrant_eligible n hc
  obtain ⟨w, hw, -, -, mode⟩ := (s.eligible_iff n c).1 eligible
  cases hs : (s.lock n).state
  case free => rfl
  case shared =>
    rw [State.waitersToGrant_shared hs] at hc
    rw [(s.waitsShared_iff c).1 (List.mem_takeWhile_imp hc)]
    rfl
  case orphaned =>
    rw [State.waitMode_of_wait hw]
    cases hm : w.mode
    · rfl
    · exact absurd ⟨hs, hm⟩ mode
  all_goals
    rw [State.waitersToGrant_closed (by simp [hs])] at hc
    cases hc

/-- Grant evaluation chooses one waiter, or SHARED waiters only. -/
theorem State.waitersToGrant_together (s : State) (n : LockId) :
    (s.waitersToGrant n).length ≤ 1 ∨ ∀ c ∈ s.waitersToGrant n, s.waitMode c = .shared := by
  have readers : ∀ q : List ClientId, ∀ c ∈ q.takeWhile s.waitsShared, s.waitMode c = .shared := fun q c hc =>
    (s.waitsShared_iff c).1 (List.mem_takeWhile_imp hc)
  cases hs : (s.lock n).state
  case free =>
    cases hq : s.eligibleWaiters n with
    | nil => simp [State.waitersToGrant_free_nil hs hq]
    | cons c q =>
      rw [State.waitersToGrant_free_cons hs hq]
      split
      · exact .inr (readers _)
      · exact .inl le_rfl
  case shared => exact .inr (State.waitersToGrant_shared hs ▸ readers _)
  case orphaned => exact .inl (State.waitersToGrant_orphaned hs ▸ List.length_take_le 1 _)
  all_goals exact .inl (by simp [State.waitersToGrant_closed (s := s) (n := n) (by simp [hs])])

theorem State.grantBatch_waitersToGrant {s : State} {n : LockId} (nd : (s.lock n).queue.Nodup) :
    s.GrantBatch n (s.waitersToGrant n) where
  queue := nd
  nodup := nd.sublist ((s.waitersToGrant_sublist n).trans List.filter_sublist)
  waits c hc := by
    obtain ⟨w, hw, -⟩ := (s.eligible_iff n c).1 (s.waitersToGrant_eligible n hc).2
    rw [hw]
    rfl
  admitted _ hc := s.waitersToGrant_grantable n hc
  together := s.waitersToGrant_together n

/-- Settles O15: the waiters chosen are a batch, and the fold over a batch is the closed form. -/
theorem grantEvaluationGrantsInQueueOrder : Obligations.GrantEvaluationGrantsInQueueOrder := fun _ _ nd =>
  (State.grantBatch_waitersToGrant nd).foldl_grantWaiter

end Sys2Proof.Machine
end

section
/-! ACQUIRE (R38 to R43): the decision is the first check that applies, and what a grant at once and an
enqueued WAIT leave. -/

namespace Sys2Proof.Machine

/-! ### Lists of checks -/

@[simp] theorem firstApplying_nil : firstApplying [] = none := rfl

@[simp] theorem firstApplying_cons (b : Bool) (r : Result) (checks : List (Bool × Result)) :
    firstApplying ((b, r) :: checks) = if b = true then some r else firstApplying checks := by
  cases b <;> rfl

@[simp] theorem firstApplying_append (xs ys : List (Bool × Result)) :
    firstApplying (xs ++ ys) = (firstApplying xs).or (firstApplying ys) := by
  rw [firstApplying, List.find?_append, Option.map_or]
  rfl

/-! ### The decision -/

/-- The client has a hold on the lock when one of its held list is (SELF_HELD). -/
theorem State.findHold_isSome_eq_any (s : State) (c : ClientId) (n : LockId) :
    (s.findHold c n).isSome = (s.heldList c).any fun h => h.lock == n := by
  rw [Bool.eq_iff_iff, s.findHold_isSome_iff]
  simp

/-- A lock is below the client's mark when it does not rank above some lock held (R23, R68). -/
theorem State.belowMark_eq_any (s : State) (c : ClientId) (n : LockId) :
    s.belowMark c n = (s.heldList c).any fun h => !s.ranksAbove n h.lock := by
  have above : ∀ m, (!s.ranksAbove n m) = true ↔ s.rankKey m ≤ s.rankKey n := fun m => by
    rw [Bool.not_eq_true', ← Bool.not_eq_true, s.ranksAbove_iff, Nat.not_lt]
  unfold State.belowMark
  rcases s.mark_spec c with ⟨nil, mark⟩ | ⟨m, mark, ⟨x, hx, rfl⟩, best⟩
  · simp [nil, mark]
  · rw [mark, Bool.eq_iff_iff, List.any_eq_true, above]
    constructor
    · exact fun le => ⟨x, hx, (above _).2 le⟩
    · rintro ⟨h, hh, le⟩
      exact (best h hh).trans ((above _).1 le)

theorem State.slotFree_eq_false_iff (s : State) (a : AgentId) :
    s.slotFree a = false ↔ 16 ≤ (s.nu a).queue.length + (s.nu a).reserved := by
  rw [State.slotFree, decide_eq_false_iff_not, Nat.not_lt]
  rfl

/-- Not gated and grantable at once: the two halves of R39 and R40. -/
theorem State.grantableNow_eq (s : State) (n : LockId) (m : Mode) (p : Priority) :
    s.grantableNow n m p = (!s.gated p && s.grantableAtOnce n m) := by
  have gate : (!s.gated p) = decide (p.val < s.su.gate.val) := by
    rw [Bool.eq_iff_iff]
    simp [State.gated]
  rw [gate, State.grantableNow, Bool.and_assoc]
  rfl

/-- What a list of checks decides, where `passed` is what follows when none applies. -/
def decisionOf (passed : Decision) : Option Result → Decision
  | some r => .refuse r
  | none => passed

@[simp] theorem decisionOf_some (passed : Decision) (r : Result) : decisionOf passed (some r) = .refuse r := rfl

@[simp] theorem decisionOf_none (passed : Decision) : decisionOf passed none = passed := rfl

@[simp] theorem decisionOf_ite (passed : Decision) (P : Prop) [Decidable P] (r : Result) (e : Option Result) :
    decisionOf passed (if P then some r else e) = if P then .refuse r else decisionOf passed e := by
  split <;> rfl

/-- The checks of R39 to R41 and R61, the last six of an ACQUIRE. -/
theorem State.grantDecision_eq (s : State) (a : AgentId) (n : LockId) (m : Mode) (k : Kind) (p : Priority) :
    s.grantDecision a n m k p =
      decisionOf (if s.grantableNow n m p = true then .grant else .enqueue)
        (firstApplying
          [(k == .tryOnce && decide (s.su.gate.val ≤ p.val), .gated),
            (s.grantableNow n m p && decide (s.freeCount = 0), .noSpace),
            (!s.grantableNow n m p && k == .tryOnce, .busy),
            (!s.grantableNow n m p && decide (31 ≤ (s.lock n).queue.length), .busy),
            (!s.grantableNow n m p && decide (16 ≤ (s.nu a).queue.length + (s.nu a).reserved), .queueFull),
            (!s.grantableNow n m p && decide (s.freeCount = 0), .noSpace)]) := by
  have queue : s.queueDecision a n k =
      if k = .tryOnce then .refuse .busy
      else if 31 ≤ (s.lock n).queue.length then .refuse .busy
      else if 16 ≤ (s.nu a).queue.length + (s.nu a).reserved then .refuse .queueFull
      else if s.freeCount = 0 then .refuse .noSpace
      else .enqueue := by
    simp only [State.queueDecision, Bool.not_eq_true', s.slotFree_eq_false_iff, Config.waitersPerLock]
  have gate : decide (s.su.gate.val ≤ p.val) = s.gated p := rfl
  unfold State.grantDecision
  rw [s.grantableNow_eq, queue, gate]
  cases hg : s.gated p
  case true => by_cases hk : k = .tryOnce <;> simp [hk]
  case false => cases hn : s.grantableAtOnce n m <;> simp

/-- The decision of an ACQUIRE is that of its checks, in order (R38 to R41). -/
theorem State.acquireDecision_eq (s : State) (a : AgentId) (c : ClientId) (n : LockId) (m : Mode) (k : Kind)
    (p : Priority) :
    s.acquireDecision a c n m k p =
      decisionOf (if s.grantableNow n m p = true then .grant else .enqueue)
        (firstApplying (s.acquireChecks a c n m k p)) := by
  unfold State.acquireDecision State.acquireChecks
  rw [s.grantDecision_eq, s.findHold_isSome_eq_any, s.belowMark_eq_any]
  simp only [firstApplying_cons, decisionOf_ite, beq_iff_eq, Bool.and_eq_true, Bool.not_eq_true', decide_eq_true_eq]
  rfl

/-! ### The grant at once (R42) -/

theorem State.createHold_lock (s : State) (c : ClientId) (n : LockId) (m : Mode) :
    (s.createHold c n m).lock n =
      { s.lock n with
        state := stateAfterGrant (s.lock n).state m
        generation := (s.lock n).generation + 1
        cleanPending := (s.lock n).state == .orphaned } := by
  simp [State.createHold]

theorem State.grantable_of_grantableNow {s : State} {n : LockId} {m : Mode} {p : Priority}
    (now : s.grantableNow n m p = true) : (s.lock n).state.grantable m = true := by
  rw [s.grantableNow_eq, Bool.and_eq_true] at now
  exact State.grantable_of_grantableAtOnce now.2

/-- Everything a grant at once does. -/
theorem State.createHold_grantedAtOnce {s : State} {n : LockId} {m : Mode}
    (adm : (s.lock n).state.grantable m = true) (o : Origin) :
    ((s.createHold o.client n m).answer o (if (s.lock n).state = .orphaned then .okSuspect else .ok) n
      ((s.createHold o.client n m).lock n).generation).GrantedAtOnce s o n m := by
  have lock := s.createHold_lock o.client n m
  rw [stateAfterGrant_eq_grantedState adm] at lock
  refine ⟨s.createHold o.client n m, rfl, lock, fun k hk => by simp [State.createHold, hk],
    by simp [State.createHold], fun d hd => by simp [State.createHold, hd], rfl, ?_⟩
  rw [lock]
  exact State.answer_answered ..

/-! ### The WAIT queued (R43) -/

theorem Origin.agentOf_client (o : Origin) : agentOf o.client = o.agent :=
  agentOf_clientOf o.agent o.slot

/-- Everything an enqueued WAIT does. -/
theorem State.enqueue_queued (s : State) (o : Origin) (n : LockId) (m : Mode)
    (p : Priority) : (((s.enqueue o.client n m p).answer o .waiting n 0).grantEval n).Queued s o n m p := by
  obtain ⟨ahead, behind, queue, inserted, last, after⟩ :=
    insertWaiter_split s.waitPriority o.client p (s.lock n).queue
  have nu : ∀ a, ((s.enqueue o.client n m p).answer o .waiting n 0).nu a = (s.enqueue o.client n m p).nu a :=
    fun a => by rw [State.answer_outcome _ o n 0 (by decide), State.setClient_nu]
  refine ⟨(s.enqueue o.client n m p).answer o .waiting n 0, ahead, behind, queue, last, after, ?_, fun k hk => ?_, ?_,
    ?_, fun a ha => ?_, ?_, fun d hd => ?_, ?_, rfl⟩
  · simp [State.enqueue, inserted]
  · simp [State.enqueue, hk]
  · rw [State.answer_pool, State.enqueue_pool]
  · rw [nu]
    simp [State.enqueue, o.agentOf_client]
  · rw [nu]
    simp [State.enqueue, o.agentOf_client, ha]
  · rw [State.answer_client, if_pos rfl, State.enqueue_client]
    rfl
  · rw [State.answer_client, if_neg hd, State.enqueue_client_of_ne s o.client n m p hd]
  · rw [State.answer_outcome _ o n 0 (by decide)]
    rfl

/-- An ACQUIRE of any origin does what R38 to R43 say. -/
theorem State.acquireOp_acquireTaken (s : State) (o : Origin) (n : LockId) (m : Mode) (k : Kind) (p : Priority) :
    (s.acquireOp o n m k p).AcquireTaken s o n m k p := by
  unfold State.acquireOp State.AcquireTaken
  rw [s.acquireDecision_eq]
  cases firstApplying (s.acquireChecks o.agent o.client n m k p) with
  | some r => exact s.answer_answered ..
  | none =>
    by_cases now : s.grantableNow n m p = true
    · simp only [now, if_true, decisionOf_none]
      exact State.createHold_grantedAtOnce (State.grantable_of_grantableNow now) o
    · simp only [now, decisionOf_none]
      exact s.enqueue_queued o n m p

/-- Settles O4, for the origin of an ACMD word. -/
theorem acquireIsDecidedByItsFirstApplyingCheck : Obligations.AcquireIsDecidedByItsFirstApplyingCheck :=
  fun _ _ n m k p _ s => ⟨_, rfl, s.acquireOp_acquireTaken _ n m k p⟩

end Sys2Proof.Machine
end

section
/-! RELEASE (R49 to R51), MARK_CLEAN (R53) and CANCEL (R54, R55): each answers as its checks say, and does what
its rules say where none of them refuses. -/

namespace Sys2Proof.Machine

/-! ### The checks of a holder's commands -/

theorem State.firstApplying_holderChecks (s : State) (c : ClientId) (n : LockId) :
    firstApplying (s.holderChecks c n) = s.holderCheck c n := by
  simp only [State.holderChecks, firstApplying_cons, firstApplying_nil, beq_iff_eq]
  rfl

/-- The checks for a client without a hold on the lock: the revoked entry, the domain, and then NOT_HOLDER. -/
theorem State.firstApplying_noHoldChecks_of_none {s : State} {c : ClientId} {n : LockId}
    (missing : s.findHold c n = none) (a : AgentId) (earlier : Result) :
    firstApplying (s.noHoldChecks a c n earlier) =
      some (if s.inRevoked c n = true then earlier else s.noHoldResult a n) := by
  have absent : ((s.heldList c).all fun h => h.lock != n) = true := by
    simpa using (s.findHold_eq_none_iff c n).1 missing
  have entry : (s.client c).revoked.get n = s.inRevoked c n := rfl
  have domain : (s.agentConfig a).mask.getLsbD (s.lock n).config.domain = s.domainAllowed a n := rfl
  simp only [State.noHoldChecks, absent, entry, domain, Bool.true_and, firstApplying_cons, State.noHoldResult]
  cases s.inRevoked c n <;> cases s.domainAllowed a n <;> rfl

theorem State.firstApplying_noHoldChecks_of_some {s : State} {c : ClientId} {n : LockId} {h : Hold}
    (found : s.findHold c n = some h) (a : AgentId) (earlier : Result) :
    firstApplying (s.noHoldChecks a c n earlier) = none := by
  have present : ((s.heldList c).all fun h => h.lock != n) = false := by
    obtain ⟨client, lock, mem⟩ := State.findHold_some found
    rw [List.all_eq_false]
    exact ⟨h, (s.mem_heldList_iff c h).2 ⟨mem, client⟩, by simp [lock]⟩
  simp [State.noHoldChecks, present]

/-! ### RELEASE (R49 to R51) -/

theorem State.setClient_clientChanged (s : State) (c : ClientId) (r : Client) :
    (s.setClient c r).ClientChanged s c r :=
  ⟨by simp, fun d hd => by simp [hd], rfl⟩

/-- What a RELEASE without a hold or a revoked entry is answered (R49). -/
theorem State.noHoldResult_eq (s : State) (a : AgentId) (n : LockId) :
    s.noHoldResult a n =
      if (s.agentConfig a).mask.getLsbD (s.lock n).config.domain = false then .denied else .notHolder := by
  unfold State.noHoldResult State.domainAllowed
  cases (s.agentConfig a).mask.getLsbD (s.lock n).config.domain <;> rfl

/-- The flush of a queue leaves the SU alone. -/
theorem State.deadFlush_su (s : State) (n : LockId) : (s.deadFlush n).su = s.su := by
  rw [State.deadFlush_eq, State.flushWaits_frame]

/-- A release that makes the lock DEAD (R8, R50): the hold and the lock, the flush, then LOCK_DEAD. -/
theorem State.makeDead_eq {s : State} {c : ClientId} {n : LockId} {h : Hold} (found : s.findHold c n = some h) :
    ∃ u : State,
      u.LockChanged { s with pool := s.pool.erase (.hold h) } n
          { s.lock n with state := .dead, cleanPending := false }
        ∧ s.makeDead c n =
          { u.deadFlush n with su := { s.su with flags := { s.su.flags with lockDead := true } } } := by
  refine ⟨_, State.setLock_lockChanged { s with pool := s.pool.erase (.hold h) } n _, ?_⟩
  unfold State.makeDead
  rw [State.freeHold_eq, State.eraseP_isHoldOf found, State.raise_eq, State.deadFlush_su]
  rfl

/-- A RELEASE of any origin does what R49 to R51 say. -/
theorem State.releaseOp_releaseTaken (s : State) (o : Origin) (n : LockId) :
    (s.releaseOp o n).ReleaseTaken s o n := by
  unfold State.releaseOp State.ReleaseTaken
  dsimp only
  rw [s.firstApplying_holderChecks]
  cases s.holderCheck o.client n with
  | some r => exact s.answer_answered ..
  | none =>
    cases found : s.findHold o.client n with
    | none =>
      by_cases entry : (s.client o.client).revoked.get n = true
      · have listed : s.inRevoked o.client n = true := entry
        simp only [if_pos entry, if_pos listed]
        exact ⟨_, s.setClient_clientChanged o.client _, State.answer_answered ..⟩
      · have listed : ¬ s.inRevoked o.client n = true := entry
        simp only [if_neg entry, if_neg listed, s.noHoldResult_eq]
        split <;> exact s.answer_answered ..
    | some h =>
      by_cases awaiting : (s.lock n).state = .suspect ∧ (s.lock n).cleanPending = true
      · obtain ⟨u, changed, dead⟩ := State.makeDead_eq found
        simp only [if_pos awaiting]
        exact ⟨u, s.makeDead o.client n, changed, dead, State.answer_answered ..⟩
      · simp only [if_neg awaiting]
        exact ⟨_, State.removeHold_holdRemoved .free found, State.answer_answered ..⟩

/-- Settles O6, for the origin of an ACMD word. -/
theorem releaseFollowsItsChecks : Obligations.ReleaseFollowsItsChecks := fun _ _ n _ s =>
  ⟨_, rfl, s.releaseOp_releaseTaken _ n⟩

/-! ### MARK_CLEAN (R53) -/

/-- A MARK_CLEAN of any origin does what R53 says. -/
theorem State.markCleanOp_markCleanTaken (s : State) (o : Origin) (n : LockId) :
    (s.markCleanOp o n).MarkCleanTaken s o n := by
  unfold State.markCleanOp State.MarkCleanTaken
  dsimp only
  rw [firstApplying_append, firstApplying_append, s.firstApplying_holderChecks]
  cases s.holderCheck o.client n with
  | some r => exact s.answer_answered ..
  | none =>
    cases found : s.findHold o.client n with
    | none =>
      rw [State.firstApplying_noHoldChecks_of_none found]
      simp only [Option.none_or, Option.some_or]
      split <;> exact s.answer_answered ..
    | some h =>
      rw [State.firstApplying_noHoldChecks_of_some found]
      by_cases suspect : (s.lock n).state = .suspect
      · have passed : ((s.lock n).state != .suspect) = false := by simp [suspect]
        simp only [if_pos suspect, passed, firstApplying_cons, firstApplying_nil, Option.none_or]
        exact ⟨h, _, rfl, s.setLock_lockChanged n _, State.answer_answered ..⟩
      · have refused : ((s.lock n).state != .suspect) = true := by simp [suspect]
        simp only [if_neg suspect, refused, firstApplying_cons, Option.none_or]
        exact s.answer_answered ..

/-- Settles O8, for the origin of an ACMD word. -/
theorem markCleanFollowsItsChecks : Obligations.MarkCleanFollowsItsChecks := fun _ _ n _ s =>
  ⟨_, rfl, s.markCleanOp_markCleanTaken _ n⟩

/-! ### CANCEL (R54, R55) -/

/-- The end of a wait by CANCEL: no notice, and the client becomes READY (R54). -/
theorem State.cancelWait_ready_waitEnded (s : State) (c : ClientId) (n : LockId) :
    ((s.cancelWait c n).setClientState c .ready).WaitEnded s c n .ready .cancelled none := by
  obtain ⟨client, others, lock, locks, pool, nu, nus, frame⟩ := s.cancelWait_waitEnded c n
  refine ⟨?_, fun d hd => ?_, lock, locks, pool, nu, nus, ?_⟩
  · simp [client]
  · simp [hd, others d hd]
  · rw [State.setClientState_eq, frame]
    rfl

/-- A CANCEL of any origin does what R54 and R55 say. -/
theorem State.cancelOp_cancelTaken (s : State) (o : Origin) : (s.cancelOp o).CancelTaken s o := by
  unfold State.cancelOp State.CancelTaken
  dsimp only
  cases (s.client o.client).state with
  | off => exact s.answer_answered ..
  | detaching => exact s.answer_answered ..
  | waiting =>
    intro w hw
    simp only [hw]
    exact ⟨_, _, s.cancelWait_ready_waitEnded o.client w.lock, State.answer_answered .., rfl⟩
  | ready => cases (s.client o.client).lastWaitEnd <;> exact s.answer_answered ..

/-- Settles O9, for the origin of an ACMD word. -/
theorem cancelFollowsTheClientState : Obligations.CancelFollowsTheClientState := fun _ _ _ s =>
  ⟨_, rfl, s.cancelOp_cancelTaken _⟩

end Sys2Proof.Machine
end

section
/-! Commands that end in a fault (R36, R138): such a command has done nothing but answer. -/

namespace Sys2Proof.Machine

/-! ### States that a faulted command leaves -/

/-- If the result register of the command's client holds a fault in `t`, then `t` is `s` with a command answered
and nothing else changed. -/
structure State.FaultOnly (t s : State) (o : Origin) : Prop where
  answer : (t.client o.client).result.result.isFault = true → ∃ r n, t = s.answer o r n 0

theorem State.answer_result (s : State) (o : Origin) (r : Result) (n : LockId) (g : BitVec 16) :
    ((s.answer o r n g).client o.client).result.result = r := by
  rw [State.answer_client, if_pos rfl]

section
variable (s : State) {t : State} {o : Origin}

/-- A refusal only answers. -/
theorem State.answer_faultOnly (o : Origin) (r : Result) (n : LockId) : (s.answer o r n 0).FaultOnly s o :=
  ⟨fun _ => ⟨r, n, rfl⟩⟩

/-- An outcome is no fault, whatever has been done before it. -/
theorem State.answer_faultOnly_of_outcome (u : State) (o : Origin) {r : Result} (n : LockId) (g : BitVec 16)
    (outcome : r.isFault = false) : (u.answer o r n g).FaultOnly s o := by
  refine ⟨fun fault => ?_⟩
  rw [State.answer_result, outcome] at fault
  cases fault

/-- Nor does grant evaluation after it make it one. -/
theorem State.grantEval_answer_faultOnly_of_outcome (u : State) (o : Origin) {r : Result} (n : LockId)
    (g : BitVec 16) (m : LockId) (outcome : r.isFault = false) :
    ((u.answer o r n g).grantEval m).FaultOnly s o := by
  refine ⟨fun fault => ?_⟩
  rw [(State.grantEval_frame _ m).result, State.answer_result, outcome] at fault
  cases fault

/-- What a fault leaves, and that it leaves the read data. -/
theorem State.FaultOnly.answered {s : State} (h : t.FaultOnly s o)
    (fault : (t.client o.client).result.result.isFault = true) :
    ∃ n, t.Answered s o (t.client o.client).result.result n 0 ∧ t.busData = s.busData := by
  obtain ⟨r, n, rfl⟩ := h.answer fault
  rw [State.answer_result]
  exact ⟨n, s.answer_answered o r n 0, s.answer_busData o r n 0⟩

end

/-! ### The commands of clients -/

section
variable (s : State) (o : Origin) (n : LockId)

theorem State.acquireOp_faultOnly (m : Mode) (k : Kind) (p : Priority) : (s.acquireOp o n m k p).FaultOnly s o := by
  unfold State.acquireOp
  split
  · exact s.answer_faultOnly ..
  · exact s.answer_faultOnly_of_outcome _ o n _ (by split <;> decide)
  · exact s.grantEval_answer_faultOnly_of_outcome _ o n 0 n (by decide)

theorem State.releaseOp_faultOnly : (s.releaseOp o n).FaultOnly s o := by
  unfold State.releaseOp
  split
  · exact s.answer_faultOnly ..
  · split
    · split
      · exact s.answer_faultOnly_of_outcome _ o n 0 (by decide)
      · exact s.answer_faultOnly ..
    · split <;> exact s.answer_faultOnly_of_outcome _ o n _ (by decide)

theorem State.markCleanOp_faultOnly : (s.markCleanOp o n).FaultOnly s o := by
  unfold State.markCleanOp
  split
  · exact s.answer_faultOnly ..
  · split
    · split <;> exact s.answer_faultOnly ..
    · split
      · exact s.answer_faultOnly_of_outcome _ o n _ (by decide)
      · exact s.answer_faultOnly ..

theorem State.cancelOp_faultOnly : (s.cancelOp o).FaultOnly s o := by
  unfold State.cancelOp
  split
  · exact s.answer_faultOnly ..
  · exact s.answer_faultOnly ..
  · split
    · exact s.answer_faultOnly ..
    · next w _ => exact s.grantEval_answer_faultOnly_of_outcome _ o w.lock 0 w.lock (by decide)
  · split <;> exact s.answer_faultOnly ..

theorem State.renewOp_faultOnly : (s.renewOp o n).FaultOnly s o := by
  unfold State.renewOp
  split
  · exact s.answer_faultOnly ..
  · split
    · split <;> exact s.answer_faultOnly ..
    · split
      · exact s.answer_faultOnly ..
      · exact s.answer_faultOnly_of_outcome _ o n _ (by decide)

theorem State.mailOp_faultOnly (target : AgentId) (payload : BitVec 16) :
    (s.mailOp o target payload).FaultOnly s o := by
  unfold State.mailOp
  split_ifs
  case neg => exact s.answer_faultOnly_of_outcome _ o 0 0 (by decide)
  all_goals exact s.answer_faultOnly ..

end

/-- A command of a client other than a claim-window read leaves what its operation leaves, and if that is a
fault, nothing else. -/
theorem exec_faultOnly {i : Instr} {o : Origin} {s : State} (own : s.originOf i = some o)
    (window : ∀ a n, i ≠ .claimRead a n) : ∃ t, exec i s = .next t ∧ t.FaultOnly s o := by
  cases i
  case claimRead a n => exact absurd rfl (window a n)
  case acquire => cases own; exact ⟨_, rfl, s.acquireOp_faultOnly ..⟩
  case release => cases own; exact ⟨_, rfl, s.releaseOp_faultOnly ..⟩
  case cancel => cases own; exact ⟨_, rfl, s.cancelOp_faultOnly _⟩
  case renew => cases own; exact ⟨_, rfl, s.renewOp_faultOnly ..⟩
  case markClean => cases own; exact ⟨_, rfl, s.markCleanOp_faultOnly ..⟩
  case mail => cases own; exact ⟨_, rfl, s.mailOp_faultOnly ..⟩
  case badOpcode => cases own; exact ⟨_, rfl, s.answer_faultOnly ..⟩
  case claimWrite => cases own; exact ⟨_, rfl, s.releaseOp_faultOnly ..⟩
  all_goals cases own

/-- Settles O12: the operation of a faulted command only answered; a claim-window read then puts the result
word into the read data. -/
theorem faultsChangeNothingElse : Obligations.FaultsChangeNothingElse := by
  intro i o s t own ht fault
  by_cases window : ∃ a n, i = .claimRead a n
  · obtain ⟨a, n, rfl⟩ := window
    cases own
    cases ht
    obtain ⟨m, answered, -⟩ := (s.acquireOp_faultOnly ..).answered fault
    exact ⟨_, m, answered, rfl⟩
  · simp only [not_exists] at window
    obtain ⟨u, hu, faultOnly⟩ := exec_faultOnly own window
    obtain rfl : u = t := Host.Outcome.next.inj (hu.symm.trans ht)
    obtain ⟨n, answered, busData⟩ := faultOnly.answered fault
    refine ⟨u, n, answered, ?_⟩
    cases i
    case claimRead a n => exact absurd rfl (window a n)
    all_goals
      dsimp only
      rw [← busData]

end Sys2Proof.Machine
end

section
/-! The gate register (R70, R72) and the sweep step (R75, R76). -/

namespace Sys2Proof.Machine

/-! ### The gate register -/

/-- A field limited to a greatest value, by cases (R160). -/
theorem clamp_val (limit v : Nat) : (clamp limit v).val = if limit < v then limit else v := by
  simp only [clamp]
  split <;> omega

/-- The sweep after the gate has become `g` (R72). -/
theorem State.writeGate_sweep (s : State) (w : Word) :
    (s.writeGate w).su.sweep =
      if (s.writeGate w).su.gate.val ≤ s.su.gate.val then s.su.sweep
      else if s.su.sweep.running = true then { s.su.sweep with again := true }
      else { running := true, position := 0, again := false } := by
  have gate : (s.writeGate w).su.gate = clamp 16 (fieldOf w 0 8) := rfl
  rw [gate]
  by_cases raised : s.su.gate < clamp 16 (fieldOf w 0 8)
  · rw [if_neg (Nat.not_le.2 raised)]
    exact if_pos raised
  · rw [if_pos (Nat.le_of_not_lt raised)]
    exact if_neg raised

/-- Settles O22: the gate stored is the limited field, and the sweep follows the comparison. -/
theorem gateWritesStartOrRearmTheSweep : Obligations.GateWritesStartOrRearmTheSweep := by
  intro w s v g
  have gate : (s.writeGate w).su.gate.val = g := clamp_val 16 (fieldOf w 0 8)
  exact ⟨_, rfl, rfl, gate, gate ▸ s.writeGate_sweep w⟩

/-! ### The sweep step -/

theorem State.sweepLock_su (s : State) (n : LockId) : (s.sweepLock n).su = s.su := by
  unfold State.sweepLock
  split
  · rfl
  · exact (s.grantEval_frame n).su

/-- The SU after a step of the running sweep (R75, R76). -/
def Supervisor.swept (u : Supervisor) : Supervisor :=
  if u.sweep.position.val < 63 then { u with sweep := { u.sweep with position := u.sweep.position + 1 } }
  else if u.sweep.again = true then { u with sweep := { running := true, position := 0, again := false } }
  else
    { u with
      sweep := { running := false, position := 0, again := false }
      flags := { u.flags with sweepDone := true } }

/-- Everything a step of the running sweep does. -/
theorem State.sweepStepOp_of_running {s : State} (running : s.su.sweep.running = true) :
    s.sweepStepOp = (s.sweepLock s.su.sweep.position).setSu s.su.swept := by
  have last : s.su.sweep.position = Config.lastLock ↔ ¬ s.su.sweep.position.val < 63 := by
    rw [Fin.ext_iff, Config.lastLock]
    omega
  unfold State.sweepStepOp Sweep.advance Supervisor.swept
  rw [if_pos running]
  simp only [State.sweepLock_su, last, running]
  by_cases below : s.su.sweep.position.val < 63
  · simp only [below, not_true_eq_false, if_false, if_true, Bool.false_eq_true]
  · cases s.su.sweep.again <;>
      simp only [below, not_false_eq_true, if_false, if_true, Bool.false_eq_true, State.raise_eq]
    all_goals rfl

/-- Settles O38, from the closed form of the step. -/
theorem sweepStepEvaluatesAndAdvances : Obligations.SweepStepEvaluatesAndAdvances := by
  intro s running n u
  have taken := State.sweepStepOp_of_running running
  exact ⟨s.sweepStepOp, rfl, by rw [taken]; rfl, by rw [taken]; rfl⟩

end Sys2Proof.Machine
end

section
/-! The rank order of waits and holds (R68, R69): it leaves no cycle of waits. -/

namespace Sys2Proof.Machine

/-- The law of R69 by rank keys: the smaller key ranks higher. -/
theorem State.rankSound_iff (s : State) :
    s.RankSound ↔ ∀ c n, s.WaitsOn c n → ∀ m ∈ s.heldLocks c, s.rankKey n < s.rankKey m := by
  simp only [State.RankSound, State.heldLocks, List.forall_mem_map, s.ranksAbove_iff]

/-- Along a chain of waits the ranks rise: its last client holds a lock that ranks no lower than the one its
first client waits on. -/
theorem State.RankSound.rankKey_le_of_chain {s : State} (rank : s.RankSound) {c d : ClientId}
    (chain : Relation.TransGen s.WaitsFor c d) :
    ∃ n, s.WaitsOn c n ∧ ∃ m ∈ s.heldLocks d, s.rankKey m ≤ s.rankKey n := by
  induction chain with
  | single first =>
    obtain ⟨n, waits, held⟩ := first
    exact ⟨n, waits, n, (s.mem_heldLocks_iff _ n).2 held, le_rfl⟩
  | tail _ next ih =>
    obtain ⟨n, waits, m, held, le⟩ := ih
    obtain ⟨k, waits', held'⟩ := next
    have lt := s.rankSound_iff.1 rank _ k waits' m held
    exact ⟨n, waits, k, (s.mem_heldLocks_iff _ k).2 held', lt.le.trans le⟩

/-- Settles O47: around a cycle a client would hold a lock that ranks no lower than the one it waits on. -/
theorem noCycleOfWaits : Obligations.NoCycleOfWaits := by
  intro s rank c cycle
  obtain ⟨n, waits, m, held, le⟩ := rank.rankKey_le_of_chain cycle
  exact Nat.not_lt.2 le (s.rankSound_iff.1 rank c n waits m held)

end Sys2Proof.Machine
end

section
/-! Locks on which grant evaluation would grant nothing (R78): the first eligible waiter decides it, grant
evaluation leaves such a lock, and a lower gate keeps one. -/

namespace Sys2Proof.Machine

/-! ### The first eligible waiter decides -/

/-- Grant evaluation would grant nothing exactly where the first eligible waiter, if there is one, waits in a mode
that the state of the lock does not admit (R45). -/
theorem State.settled_iff (s : State) (n : LockId) :
    s.Settled n ↔
      ∀ c, (s.eligibleWaiters n).head? = some c → (s.lock n).state.grantable (s.waitMode c) = false := by
  unfold State.Settled
  cases hq : s.eligibleWaiters n with
  | nil =>
    have none := s.waitersToGrant_sublist n
    rw [hq, List.sublist_nil] at none
    simp [none]
  | cons c q =>
    simp only [List.head?_cons, Option.some.injEq, forall_eq']
    cases hs : (s.lock n).state
    case free =>
      rw [State.waitersToGrant_free_cons hs hq]
      split <;> simp_all [LockState.grantable]
    case shared =>
      rw [State.waitersToGrant_shared hs, hq, List.takeWhile_eq_nil_iff]
      cases hm : s.waitMode c <;> simp [s.waitsShared_iff, hm, LockState.grantable]
    case orphaned =>
      have chosen : s.waitersToGrant n = [c] := by rw [State.waitersToGrant_orphaned hs, hq]; rfl
      have adm := s.waitersToGrant_grantable n (c := c) (by simp [chosen])
      rw [hs] at adm
      simp [chosen, adm]
    all_goals simp [State.waitersToGrant_closed (s := s) (n := n) (by simp [hs]), LockState.grantable]

theorem State.settled_of_empty {s : State} {n : LockId} (queue : (s.lock n).queue = []) : s.Settled n :=
  (s.settled_iff n).2 (by simp [State.eligibleWaiters, queue])

theorem State.settled_of_ungrantable {s : State} {n : LockId} (h : ∀ m, (s.lock n).state.grantable m = false) :
    s.Settled n :=
  (s.settled_iff n).2 fun _ _ => h _

/-! ### What it reads of a client -/

/-- What a wait asks for: its lock, its mode and its priority. -/
def WaitRecord.request (w : WaitRecord) : LockId × Mode × Priority :=
  (w.lock, w.mode, w.priority)

/-- `r'` waits for what `r` waits for, and is DETACHING while waiting if `r` is. -/
structure Client.SameWaiter (r' r : Client) : Prop where
  request : r'.wait.map WaitRecord.request = r.wait.map WaitRecord.request
  detaching : r.wait.isSome = true → (r'.state = .detaching ↔ r.state = .detaching)

theorem Client.SameWaiter.refl (r : Client) : r.SameWaiter r := ⟨rfl, fun _ => Iff.rfl⟩

theorem Client.SameWaiter.of_eq {r r' : Client} (h : r' = r) : r'.SameWaiter r := h ▸ .refl r

/-- Two clients that wait for nothing. -/
theorem Client.SameWaiter.of_idle {r r' : Client} (idle : r.wait = none) (idle' : r'.wait = none) :
    r'.SameWaiter r :=
  ⟨by rw [idle, idle'], by simp [idle]⟩

theorem map_of_request {α : Type} {x y : Option WaitRecord} (f : LockId × Mode × Priority → α)
    (h : x.map WaitRecord.request = y.map WaitRecord.request) :
    x.map (f ∘ WaitRecord.request) = y.map (f ∘ WaitRecord.request) := by
  simpa [Option.map_map] using congrArg (Option.map f) h

section
variable {s t : State} {n : LockId} {c : ClientId}

theorem Client.SameWaiter.waitsOn_iff (same : (t.client c).SameWaiter (s.client c)) :
    t.WaitsOn c n ↔ s.WaitsOn c n := by
  have lock := map_of_request (fun q => q.1) same.request
  unfold State.WaitsOn
  exact lock ▸ Iff.rfl

theorem Client.SameWaiter.waitMode_eq (same : (t.client c).SameWaiter (s.client c)) :
    t.waitMode c = s.waitMode c := by
  have mode := map_of_request (fun q => q.2.1) same.request
  unfold State.waitMode
  cases hs : (s.client c).wait <;> cases ht : (t.client c).wait <;> simp_all [WaitRecord.request]

/-- Eligibility reads the gate, whether the lock is ORPHANED, and the client's wait (R65). -/
theorem State.eligible_congr (same : (t.client c).SameWaiter (s.client c)) (gate : t.su.gate = s.su.gate)
    (orphaned : (t.lock n).state = .orphaned ↔ (s.lock n).state = .orphaned) :
    t.eligible n c = s.eligible n c := by
  obtain ⟨request, detaching⟩ := same
  rw [Bool.eq_iff_iff, State.eligible_iff, State.eligible_iff, gate, orphaned]
  cases hs : (s.client c).wait <;> cases ht : (t.client c).wait <;> simp_all [WaitRecord.request]

/-- A lock and its waiters stand in `t` as they do in `s`. -/
theorem State.Settled.congr (settled : s.Settled n) (state : (t.lock n).state = (s.lock n).state)
    (queue : (t.lock n).queue = (s.lock n).queue) (gate : t.su.gate = s.su.gate)
    (clients : ∀ c ∈ (s.lock n).queue, (t.client c).SameWaiter (s.client c)) : t.Settled n := by
  have eligible : ∀ c ∈ (s.lock n).queue, t.eligible n c = s.eligible n c := fun c hc =>
    State.eligible_congr (clients c hc) gate (by rw [state])
  rw [State.settled_iff, State.eligibleWaiters, queue, List.filter_congr eligible, state]
  intro c first
  rw [(clients c (List.mem_of_mem_filter (List.mem_of_head? first))).waitMode_eq]
  exact (s.settled_iff n).1 settled c first

end

/-! ### The queues of sound waits (R60) -/

theorem State.WaitsSound.waitsOn_of_mem {s : State} {c : ClientId} {n : LockId} (sound : s.WaitsSound)
    (queued : c ∈ (s.lock n).queue) : s.WaitsOn c n := by
  obtain ⟨agree, -⟩ := sound
  exact (agree n c).1 queued

theorem State.WaitsSound.mem_of_waitsOn {s : State} {c : ClientId} {n : LockId} (sound : s.WaitsSound)
    (waits : s.WaitsOn c n) : c ∈ (s.lock n).queue := by
  obtain ⟨agree, -⟩ := sound
  exact (agree n c).2 waits

theorem State.WaitsSound.nodup {s : State} (sound : s.WaitsSound) (n : LockId) : (s.lock n).queue.Nodup := by
  obtain ⟨-, nodup, -⟩ := sound
  exact nodup n

/-- A client that waits on a lock stands in no other queue. -/
theorem State.WaitsOn.not_mem_queue {s : State} {c : ClientId} {n m : LockId} (waits : s.WaitsOn c n)
    (sound : s.WaitsSound) (hm : m ≠ n) : c ∉ (s.lock m).queue := fun queued =>
  hm ((sound.waitsOn_of_mem queued).unique waits)

/-! ### Grant evaluation settles its lock -/

/-- What is left of a list when the elements that `takeWhile` takes are removed begins with one it does not
take. -/
theorem head?_filter_takeWhile {α : Type} [DecidableEq α] {p : α → Bool} {l : List α} {x : α}
    (h : (l.filter fun y => !(l.takeWhile p).contains y).head? = some x) : p x = false := by
  have taken : (l.takeWhile p).filter (fun y => !(l.takeWhile p).contains y) = [] := by
    simp [List.filter_eq_nil_iff]
  have dropped : l.filter (fun y => !(l.takeWhile p).contains y) =
      (l.dropWhile p).filter fun y => !(l.takeWhile p).contains y := by
    conv_lhs => rw [← List.takeWhile_append_dropWhile (p := p) (l := l), List.filter_append,
      List.takeWhile_append_dropWhile, taken, List.nil_append]
  rw [dropped] at h
  cases hd : l.dropWhile p with
  | nil => simp [hd] at h
  | cons y ys =>
    have stops : p y = false := by
      have := List.head?_dropWhile_not p l
      simpa [hd] using this
    have kept : (!(l.takeWhile p).contains y) = true := by
      have : y ∉ l.takeWhile p := fun hy => Bool.false_ne_true (stops.symm.trans (List.mem_takeWhile_imp hy))
      simpa using this
    rw [hd, List.filter_cons, if_pos kept, List.head?_cons] at h
    exact Option.some.inj h ▸ stops

/-- Where a SHARED waiter is granted first, the lock is not ORPHANED, and the eligible waiters ahead of the first
EXCLUSIVE one are granted (R45). -/
theorem State.waitersToGrant_eq_takeWhile {s : State} {n : LockId} {c : ClientId} {cs : List ClientId}
    (chosen : s.waitersToGrant n = c :: cs) (reader : s.waitMode c = .shared) :
    (s.lock n).state ≠ .orphaned ∧ s.waitersToGrant n = (s.eligibleWaiters n).takeWhile s.waitsShared := by
  have adm := s.waitersToGrant_grantable n (c := c) (by simp [chosen])
  rw [reader] at adm
  cases hs : (s.lock n).state <;> rw [hs] at adm <;> cases adm
  case free =>
    refine ⟨by simp, ?_⟩
    cases hq : s.eligibleWaiters n with
    | nil => simp [State.waitersToGrant_free_nil hs hq] at chosen
    | cons d q =>
      rw [State.waitersToGrant_free_cons hs hq] at chosen ⊢
      split at chosen
      · next first => rw [if_pos first]
      · next first =>
        obtain ⟨rfl, -⟩ := List.cons.inj chosen
        exact absurd ((s.waitsShared_iff d).2 reader) first
  case shared => exact ⟨by simp, State.waitersToGrant_shared hs⟩

/-- After grant evaluation on a lock, it would grant nothing more (R45): an EXCLUSIVE grant leaves the lock HELD
or SUSPECT, and SHARED grants leave it SHARED with an EXCLUSIVE waiter first, if any. -/
theorem State.grantEval_settled {s : State} {n : LockId} (nd : (s.lock n).queue.Nodup) :
    (s.grantEval n).Settled n := by
  rw [grantEvaluationGrantsInQueueOrder s n nd]
  cases hg : s.waitersToGrant n with
  | nil =>
    rw [State.afterGrants_nil]
    exact hg
  | cons c cs =>
    have lock := s.afterGrants_lock_cons n cs c
    cases reader : s.waitMode c with
    | exclusive =>
      refine State.settled_of_ungrantable fun m => ?_
      rw [lock, reader, grantedState]
      cases m <;> by_cases ho : (s.lock n).state = .orphaned <;> simp [ho, LockState.grantable]
    | shared =>
      obtain ⟨orphaned, batch⟩ := State.waitersToGrant_eq_takeWhile hg reader
      rw [reader] at lock
      have state : ((s.afterGrants n (c :: cs)).lock n).state = .shared := by rw [lock]; rfl
      have same : ∀ d, d ∉ c :: cs → ((s.afterGrants n (c :: cs)).client d).SameWaiter (s.client d) :=
        fun d hd => .of_eq (by rw [State.afterGrants_client, if_neg hd])
      have left : (s.afterGrants n (c :: cs)).eligibleWaiters n =
          (s.eligibleWaiters n).filter fun d => !(c :: cs).contains d := by
        rw [State.eligibleWaiters, State.eligibleWaiters, lock, List.filter_filter, List.filter_filter]
        refine List.filter_congr fun d _ => ?_
        by_cases hd : d ∈ c :: cs
        · simp [hd]
        · rw [State.eligible_congr (same d hd) rfl (by simp [state, orphaned]), Bool.and_comm]
      rw [State.settled_iff, left, state]
      intro d first
      have kept : d ∉ c :: cs := by simpa using (List.mem_filter.1 (List.mem_of_head? first)).2
      rw [← hg, batch] at first
      rw [(same d kept).waitMode_eq, (s.waitsShared_eq_false_iff d).1 (head?_filter_takeWhile first)]
      rfl

/-- Grant evaluation on another lock leaves a lock settled: the clients granted wait on that lock alone (R60). -/
theorem State.Settled.grantEval {s : State} {n m : LockId} (settled : s.Settled m) (sound : s.WaitsSound)
    (hm : m ≠ n) : (s.grantEval n).Settled m := by
  have frame := s.grantEval_frame n
  refine settled.congr (by rw [frame.lock m hm]) (by rw [frame.lock m hm]) (by rw [frame.su]) fun c hc => ?_
  have other : c ∉ s.waitersToGrant n := fun granted =>
    (sound.waitsOn_of_mem hc).not_mem_queue sound hm.symm (s.waitersToGrant_eligible n granted).1
  rw [grantEvaluationGrantsInQueueOrder s n (sound.nodup n)]
  exact .of_eq (by rw [State.afterGrants_client, if_neg other])

/-! ### A lower gate keeps a lock settled -/

/-- The first eligible waiter, by the queue. -/
theorem State.head?_eligibleWaiters (s : State) (n : LockId) :
    (s.eligibleWaiters n).head? = (s.lock n).queue.find? (s.eligible n) :=
  List.head?_filter ..

/-- A lower gate keeps a lock settled (R39, R72): the queue stands in order of priority, so the gate shuts waiters
out from its end, and the first eligible waiter is the same, if there still is one. -/
theorem State.Settled.of_lower_gate {s t : State} {n : LockId} (settled : s.Settled n) (sound : s.WaitsSound)
    (locks : t.locks = s.locks) (clients : t.clients = s.clients) (le : t.su.gate ≤ s.su.gate) : t.Settled n := by
  have lock : t.lock n = s.lock n := by rw [State.lock, locks, State.lock]
  have client : ∀ c, t.client c = s.client c := fun c => by rw [State.client, clients, State.client]
  obtain ⟨-, -, order, -⟩ := sound
  rw [State.settled_iff, lock]
  intro c first
  rw [State.head?_eligibleWaiters, lock] at first
  obtain ⟨eligible, ahead, behind, queue, passed⟩ := List.find?_eq_some_iff_append.1 first
  obtain ⟨w, hw, below, state, mode⟩ := (t.eligible_iff n c).1 eligible
  rw [client] at hw state
  rw [lock] at mode
  have before : s.eligible n c = true := (s.eligible_iff n c).2 ⟨w, hw, below.trans_le le, state, mode⟩
  have same : t.waitMode c = s.waitMode c := (Client.SameWaiter.of_eq (client c)).waitMode_eq
  rw [same]
  refine (s.settled_iff n).1 settled c ((s.head?_eligibleWaiters n).trans
    (List.find?_eq_some_iff_append.2 ⟨before, ahead, behind, queue, fun a ha => ?_⟩))
  have shut := passed a ha
  rw [Bool.not_eq_true'] at shut ⊢
  rw [← Bool.not_eq_true] at shut ⊢
  intro admitted
  obtain ⟨x, hx, -, state', mode'⟩ := (s.eligible_iff n a).1 admitted
  have ordered : s.waitPriority a ≤ s.waitPriority c := by
    obtain ⟨-, -, across⟩ := List.pairwise_append.1 (queue ▸ order n)
    exact across a ha c List.mem_cons_self
  rw [State.waitPriority, State.waitPriority, hx, hw] at ordered
  exact shut ((t.eligible_iff n a).2
    ⟨x, by rw [client, hx], lt_of_le_of_lt ordered below, by rwa [client], by rwa [lock]⟩)

end Sys2Proof.Machine
end

section
/-! What a happening does to waiters (R69, R78): it starts no wait, gives no waiting client a hold, and leaves every
lock settled that was so, but for the locks whose evaluation it still owes. -/

namespace Sys2Proof.Machine

/-! ### The relations and how they compose -/

/-- Every wait in `t` stands in `s`, and its client has in `t` no hold it did not have in `s`. -/
structure State.NoNewWait (t s : State) : Prop where
  waits : ∀ c n, t.WaitsOn c n → s.WaitsOn c n
  held : ∀ c n, t.WaitsOn c n → t.heldLocks c ⊆ s.heldLocks c

/-- The sweep stands as in `s`, and every lock settled in `s` is so in `t`, but for those whose evaluation is
owed. -/
structure State.SettledBut (owed : List LockId) (t s : State) : Prop where
  settled : ∀ m, m ∉ owed → s.Settled m → t.Settled m
  sweep : t.su.sweep = s.su.sweep

/-- Both of these. -/
structure State.Orderly (owed : List LockId) (t s : State) : Prop extends t.NoNewWait s, t.SettledBut owed s

section
variable {owed : List LockId} {r s t : State}

theorem State.NoNewWait.refl (s : State) : s.NoNewWait s := ⟨fun _ _ h => h, fun _ _ _ => List.Subset.refl _⟩

theorem State.NoNewWait.trans (h₂ : t.NoNewWait s) (h₁ : s.NoNewWait r) : t.NoNewWait r :=
  ⟨fun c n h => h₁.waits c n (h₂.waits c n h),
    fun c n h => List.Subset.trans (h₂.held c n h) (h₁.held c n (h₂.waits c n h))⟩

theorem State.SettledBut.trans (h₂ : t.SettledBut owed s) (h₁ : s.SettledBut owed r) : t.SettledBut owed r :=
  ⟨fun m hm h => h₂.settled m hm (h₁.settled m hm h), h₂.sweep.trans h₁.sweep⟩

theorem State.Orderly.trans (h₂ : t.Orderly owed s) (h₁ : s.Orderly owed r) : t.Orderly owed r :=
  ⟨h₂.toNoNewWait.trans h₁.toNoNewWait, h₂.toSettledBut.trans h₁.toSettledBut⟩

/-- A debt is paid when its lock is settled. -/
theorem State.SettledBut.of_settled {n : LockId} (h : t.SettledBut (n :: owed) s) (settled : t.Settled n) :
    t.SettledBut owed s := by
  refine ⟨fun m hm hs => ?_, h.sweep⟩
  by_cases e : m = n
  · exact e ▸ settled
  · exact h.settled m (by simp [e, hm]) hs

theorem State.Orderly.of_settled {n : LockId} (h : t.Orderly (n :: owed) s) (settled : t.Settled n) :
    t.Orderly owed s :=
  ⟨h.toNoNewWait, h.toSettledBut.of_settled settled⟩

/-- Clients whose waits are as they were, and who have gained no hold. -/
theorem State.NoNewWait.of_clients (client : ∀ c, (t.client c).wait = none ∨ (t.client c).SameWaiter (s.client c))
    (held : ∀ c, (t.client c).wait = none ∨ t.heldLocks c ⊆ s.heldLocks c) : t.NoNewWait s := by
  have waiting : ∀ c n, t.WaitsOn c n → (t.client c).wait ≠ none := fun c n h none => by
    simp [State.WaitsOn, none] at h
  exact ⟨fun c n h => ((client c).resolve_left (waiting c n h)).waitsOn_iff.1 h,
    fun c n h => (held c).resolve_left (waiting c n h)⟩

/-- A change that touches no wait, no gate and no sweep, gives no hold, and leaves the states and queues of the
locks alone, but for those owed. -/
theorem State.Orderly.of_parts (lock : ∀ m, m ∉ owed → (t.lock m).state = (s.lock m).state
      ∧ (t.lock m).queue = (s.lock m).queue)
    (held : ∀ c, t.heldLocks c ⊆ s.heldLocks c) (client : ∀ c, (t.client c).SameWaiter (s.client c))
    (gate : t.su.gate = s.su.gate) (sweep : t.su.sweep = s.su.sweep) : t.Orderly owed s :=
  ⟨.of_clients (fun c => .inr (client c)) fun c => .inr (held c),
    ⟨fun m hm settled => settled.congr (lock m hm).1 (lock m hm).2 gate fun c _ => client c, sweep⟩⟩

/-- A change of none of these parts. -/
theorem State.Orderly.of_eq (locks : t.locks = s.locks) (pool : t.pool = s.pool) (clients : t.clients = s.clients)
    (gate : t.su.gate = s.su.gate) (sweep : t.su.sweep = s.su.sweep) : t.Orderly owed s := by
  refine .of_parts (fun m _ => ?_) (fun c => ?_) (fun c => .of_eq ?_) gate sweep
  · rw [State.lock, locks, State.lock]
    exact ⟨rfl, rfl⟩
  · rw [State.heldLocks_of_pool pool]
    exact List.Subset.refl _
  · rw [State.client, clients, State.client]

theorem State.Orderly.refl (s : State) : s.Orderly owed s := .of_eq rfl rfl rfl rfl rfl

/-- Such a change may follow. -/
theorem State.Orderly.congr (h : s.Orderly owed r) (locks : t.locks = s.locks) (pool : t.pool = s.pool)
    (clients : t.clients = s.clients) (gate : t.su.gate = s.su.gate) (sweep : t.su.sweep = s.su.sweep) :
    t.Orderly owed r :=
  .trans (.of_eq locks pool clients gate sweep) h

end

/-! ### Clients, locks and holds changed in place -/

section
variable {owed : List LockId} {s : State}

theorem State.setClient_orderly {c : ClientId} {r : Client} (same : r.SameWaiter (s.client c)) :
    (s.setClient c r).Orderly owed s := by
  refine .of_parts (fun _ _ => ⟨rfl, rfl⟩) (fun _ => List.Subset.refl _) (fun d => ?_) rfl rfl
  rw [State.setClient_client]
  split
  · next hd => exact hd ▸ same
  · exact .refl _

theorem State.setRevoked_orderly (c : ClientId) (n : LockId) (b : Bool) : (s.setRevoked c n b).Orderly owed s :=
  State.setClient_orderly ⟨rfl, fun _ => Iff.rfl⟩

/-- A change of a lock record owes the evaluation of the lock. -/
theorem State.setLock_orderly (n : LockId) (l : LockRecord) : (s.setLock n l).Orderly (n :: owed) s := by
  refine .of_parts (fun m hm => ?_) (fun _ => List.Subset.refl _) (fun _ => .refl _) rfl rfl
  rw [State.setLock_lock, if_neg (List.ne_of_not_mem_cons hm)]
  exact ⟨rfl, rfl⟩

theorem State.setNu_orderly (a : AgentId) (r : AgentNotices) : (s.setNu a r).Orderly owed s :=
  .of_eq rfl rfl rfl rfl rfl

theorem State.answer_orderly (o : Origin) (r : Result) (n : LockId) (g : BitVec 16) :
    (s.answer o r n g).Orderly owed s := by
  refine .of_parts (by simp) (fun c => ?_) (fun c => ?_) ?_ ?_
  · rw [State.heldLocks_of_pool (s.answer_pool o r n g)]
    exact List.Subset.refl _
  · rw [State.answer_client]
    split
    · exact ⟨rfl, fun _ => Iff.rfl⟩
    · exact .refl _
  all_goals
    rw [State.answer_eq, State.setSu_su]
    split <;> rfl

theorem State.NoticePassed.orderly {u : State} {x : Hold} {revoked : Bool} (h : u.NoticePassed s x revoked) :
    u.Orderly owed s := by
  obtain ⟨-, -, frame⟩ := h
  exact .of_eq (by rw [frame]) (by rw [frame]) (by rw [frame]) (by rw [frame]) (by rw [frame])

/-- Records of the pool change in place, and waits as far as no law reads them. -/
theorem State.Orderly.of_map {t : State} {f : PoolRecord → PoolRecord} (hf : KeepsOwners f)
    (pool : t.pool = s.pool.map f) (lock : ∀ m, t.lock m = s.lock m)
    (client : ∀ c, (t.client c).SameWaiter (s.client c)) (su : t.su = s.su) : t.Orderly owed s := by
  refine .of_parts (fun m _ => by rw [lock]; exact ⟨rfl, rfl⟩) (fun c => ?_) client (by rw [su]) (by rw [su])
  rw [State.heldLocks_of_map hf pool]
  exact List.Subset.refl _

theorem State.updateHold_orderly (c : ClientId) (n : LockId) {f : Hold → Hold}
    (owner : ∀ x, (f x).client = x.client ∧ (f x).lock = x.lock) : (s.updateHold c n f).Orderly owed s := by
  refine .of_map ⟨fun _ _ => rfl, fun x => ?_⟩ rfl (fun _ => rfl) (fun _ => .refl _) rfl
  by_cases hx : (x.client == c && x.lock == n) = true
  · exact ⟨f x, if_pos hx, owner x⟩
  · exact ⟨x, if_neg hx, rfl, rfl⟩

theorem Client.tick_sameWaiter (r : Client) : r.tick.SameWaiter r := by
  refine ⟨?_, fun _ => Iff.rfl⟩
  rw [Client.tick, Option.map_map]
  rfl

theorem State.tick_orderly : s.tick.Orderly owed s := by
  refine .of_map (f := PoolRecord.tick) ⟨fun _ _ => rfl, fun x => ⟨_, rfl, rfl, rfl⟩⟩ (by simp [State.tick])
    (fun n => by simp [State.tick]) (fun c => ?_) (by simp [State.tick, State.mapClients])
  rw [State.tick, State.mapClients_client]
  exact Client.tick_sameWaiter _

end

/-! ### Grant evaluation -/

theorem State.grantWaiter_noNewWait (s : State) (n : LockId) (c : ClientId) : (s.grantWaiter n c).NoNewWait s := by
  cases hw : (s.client c).wait with
  | none =>
    rw [State.grantWaiter_of_no_wait hw]
    exact .refl s
  | some w =>
    refine .of_clients (fun d => ?_) fun d => ?_ <;> by_cases hd : d = c
    · rw [hd, State.grantWaiter_client hw]
      exact .inl rfl
    · exact .inr (.of_eq (s.grantWaiter_client_of_ne n hd))
    · rw [hd, State.grantWaiter_client hw]
      exact .inl rfl
    · right
      have append := State.heldLocks_of_append (s := s.setPool (s.pool.erase (.reservation c n)))
        (t := s.grantWaiter n c) (State.grantWaiter_pool hw) d
      rw [append.trans (if_neg hd), State.heldLocks_of_erase_reservation (s := s) rfl]
      exact List.Subset.refl _

theorem State.grantEval_noNewWait (s : State) (n : LockId) : (s.grantEval n).NoNewWait s := by
  unfold State.grantEval
  induction s.waitersToGrant n generalizing s with
  | nil => exact .refl s
  | cons c cs ih => exact (ih _).trans (s.grantWaiter_noNewWait n c)

section
variable {owed : List LockId} {s t : State}

/-- Grant evaluation pays for its lock. -/
theorem State.SettledBut.grantEval {n : LockId} (h : t.SettledBut (n :: owed) s) (agreed : t.Agreed) :
    (t.grantEval n).SettledBut owed s := by
  have sound := agreed.waits
  refine .of_settled ⟨fun m hm hs => ?_, ?_⟩ (State.grantEval_settled (sound.nodup n))
  · exact (h.settled m hm hs).grantEval sound (List.ne_of_not_mem_cons hm)
  · rw [(t.grantEval_frame n).su, h.sweep]

theorem State.Orderly.grantEval {n : LockId} (h : t.Orderly (n :: owed) s) (agreed : t.Agreed) :
    (t.grantEval n).Orderly owed s :=
  ⟨(t.grantEval_noNewWait n).trans h.toNoNewWait, h.toSettledBut.grantEval agreed⟩

/-- The evaluations of several locks pay for all of them. -/
theorem State.Orderly.foldl_grantEval {ns : List LockId} (h : t.Orderly (ns ++ owed) s) (agreed : t.Agreed) :
    (ns.foldl State.grantEval t).Orderly owed s := by
  induction ns generalizing t with
  | nil => exact h
  | cons n ns ih => exact ih (State.Orderly.grantEval h agreed) (agreed.grantEval n)

end

/-! ### Waits and holds that end -/

section
variable {owed : List LockId} {s u : State}

theorem State.WaitEnded.orderly {c : ClientId} {n : LockId} {st : ClientState} {e : WaitEnd}
    {notice : Option Notice} (h : u.WaitEnded s c n st e notice) (sound : s.WaitsSound) (waits : s.WaitsOn c n) :
    u.Orderly (n :: owed) s := by
  obtain ⟨client, others, -, locks, pool, -, -, frame⟩ := h
  have su : u.su = s.su := by rw [frame]
  refine ⟨.of_clients (fun d => ?_) fun d => ?_, ⟨fun m hm settled => ?_, by rw [su]⟩⟩
  · by_cases hd : d = c
    · exact .inl (by rw [hd, client])
    · exact .inr (.of_eq (others d hd))
  · rw [State.heldLocks_of_erase_reservation pool]
    exact .inr (List.Subset.refl _)
  · have ne := List.ne_of_not_mem_cons hm
    refine settled.congr (by rw [locks m ne]) (by rw [locks m ne]) (by rw [su]) fun d hd => .of_eq (others d ?_)
    rintro rfl
    exact waits.not_mem_queue sound ne hd

theorem State.HoldRemoved.orderly {x : Hold} {alone : LockState} (h : u.HoldRemoved s x alone) :
    u.Orderly (x.lock :: owed) s := by
  obtain ⟨pool, -, locks, frame⟩ := h
  refine .of_parts (fun m hm => ?_) (fun c => ?_) (fun c => .of_eq (by rw [frame]; rfl)) (by rw [frame]) (by rw [frame])
  · rw [locks m (List.ne_of_not_mem_cons hm)]
    exact ⟨rfl, rfl⟩
  · exact (State.heldLocks_sublist (pool ▸ List.erase_sublist) c).subset

/-- A hold is removed and its lock evaluated (R7, R10). -/
theorem State.HoldRemoved.grantEval_orderly {x : Hold} {alone : LockState} (h : u.HoldRemoved s x alone)
    (agreed : s.Agreed) : (u.grantEval x.lock).Orderly owed s :=
  State.Orderly.grantEval h.orderly (agreed.of_holdRemoved h)

/-- A wait ends and its lock is evaluated (R63). -/
theorem State.WaitEnded.grantEval_orderly {c : ClientId} {n : LockId} {st : ClientState} {e : WaitEnd}
    {notice : Option Notice} (h : u.WaitEnded s c n st e notice) (agreed : s.Agreed) (waits : s.WaitsOn c n)
    (state : st = .ready ∨ st = .detaching) : (u.grantEval n).Orderly owed s :=
  State.Orderly.grantEval (h.orderly agreed.waits waits) (agreed.of_waitEnded h waits state)

theorem State.Agreed.revoke_orderly {c : ClientId} {n : LockId} {x : Hold} (agreed : s.Agreed)
    (found : s.findHold c n = some x) : (s.revoke x).Orderly owed s := by
  have removed := State.removeHold_holdRemoved .orphaned found
  obtain ⟨-, -, mem⟩ := State.findHold_some found
  have gone := State.not_mem_heldLocks_of_erase mem (agreed.client x.client).nodup removed.1
  have listed := (agreed.removeHold found .orphaned).setRevoked (b := true) fun held => absurd held gone
  have passed := State.passUnreserved_noticePassed ((s.removeHold x .orphaned).setRevoked x.client x.lock true) x true
  exact State.Orderly.grantEval
    (passed.orderly.trans ((State.setRevoked_orderly x.client x.lock true).trans removed.orderly))
    (listed.noticePassed passed)

theorem withoutReservations_sublist (n : LockId) (cs : List ClientId) (p : List PoolRecord) :
    (withoutReservations n cs p).Sublist p := by
  induction cs generalizing p with
  | nil => exact .refl p
  | cons c cs ih => exact (ih _).trans List.erase_sublist

/-- What a lock's death leaves of each client (R8, R13). -/
theorem State.makeDead_client {c : ClientId} {n : LockId} (nd : (s.lock n).queue.Nodup) (d : ClientId) :
    (s.makeDead c n).client d =
      if d ∈ (s.lock n).queue then
        { s.client d with
          state := if (s.client d).state = .detaching then .detaching else .ready
          wait := none
          lastWaitEnd := .flushed }
      else s.client d := by
  have flush := deadFlushEndsEveryWait
    ((s.freeHold c n).setLock n { s.lock n with state := .dead, cleanPending := false }) n (by simpa using nd)
  unfold State.makeDead
  rw [State.raise_eq, State.setSu_client]
  refine (congrArg (fun u => u.client d) flush).trans ?_
  rw [State.afterFlush_client, State.setLock_lock, if_pos rfl]
  rfl

theorem State.makeDead_pool_sublist (c : ClientId) (n : LockId) : (s.makeDead c n).pool.Sublist s.pool := by
  unfold State.makeDead
  rw [State.raise_eq, State.setSu_pool, State.deadFlush_eq, State.flushWaits_pool]
  exact (withoutReservations_sublist n _ _).trans List.eraseP_sublist

theorem State.makeDead_su (c : ClientId) (n : LockId) :
    (s.makeDead c n).su = { s.su with flags := { s.su.flags with lockDead := true } } := by
  rw [State.makeDead, State.raise_eq, State.setSu_su, State.deadFlush_su]
  rfl

/-- A lock that dies is settled, and its waiters stand in no other queue (R8, R13). -/
theorem State.Agreed.makeDead_orderly (agreed : s.Agreed) (c : ClientId) (n : LockId) :
    (s.makeDead c n).Orderly owed s := by
  have client := fun d => s.makeDead_client (c := c) (agreed.waits.nodup n) d
  have lock := s.makeDead_lock c n
  have su := s.makeDead_su c n
  refine .of_settled (n := n) ⟨.of_clients (fun d => ?_) fun d => ?_, ⟨fun m hm settled => ?_, by rw [su]⟩⟩ ?_
  · rw [client]
    split
    · exact .inl rfl
    · exact .inr (.refl _)
  · exact .inr (State.heldLocks_sublist (s.makeDead_pool_sublist c n) d).subset
  · have ne := List.ne_of_not_mem_cons hm
    refine settled.congr (by rw [lock, if_neg ne]) (by rw [lock, if_neg ne]) (by rw [su]) fun d hd => .of_eq ?_
    rw [client, if_neg fun hn => (agreed.waits.waitsOn_of_mem hn).not_mem_queue agreed.waits ne hd]
  · exact State.settled_of_ungrantable fun m => by rw [lock, if_pos rfl]; rfl

end

end Sys2Proof.Machine
end

section
/-! What the procedures of the commands do to waiters (R69, R78): each leaves the waits, the ranks and the settled
locks in order. -/

namespace Sys2Proof.Machine

/-! ### ACQUIRE (R38 to R43) -/

theorem State.createHold_client (s : State) (c : ClientId) (n : LockId) (m : Mode) (d : ClientId) :
    (s.createHold c n m).client d =
      if d = c then { s.client c with revoked := (s.client c).revoked.set n false } else s.client d := by
  simp [State.createHold]

/-- A lock that has just been granted is not ORPHANED, and if it can be granted again it was not so before. -/
theorem stateAfterGrant_grantable {st : LockState} {m k : Mode} (adm : st.grantable m = true)
    (again : (stateAfterGrant st m).grantable k = true) : st ≠ .orphaned ∧ stateAfterGrant st m ≠ .orphaned := by
  cases st <;> cases m <;> simp_all [LockState.grantable, stateAfterGrant]

/-- A grant at once leaves its lock settled, since no waiter was eligible (R40, R42). -/
theorem State.createHold_orderly {owed : List LockId} {s : State} {c : ClientId} {n : LockId} {m : Mode}
    (idle : (s.client c).wait = none) (adm : (s.lock n).state.grantable m = true)
    (unasked : s.eligibleWaiters n = []) : (s.createHold c n m).Orderly owed s := by
  have client := s.createHold_client c n m
  have lock := s.createHold_lock c n m
  have locks : ∀ k, k ≠ n → (s.createHold c n m).lock k = s.lock k := fun k hk => by simp [State.createHold, hk]
  have same : ∀ d, ((s.createHold c n m).client d).SameWaiter (s.client d) := fun d => by
    rw [client]
    split
    · next hd => exact hd ▸ ⟨rfl, fun _ => Iff.rfl⟩
    · exact .refl _
  refine .of_settled (n := n) ⟨.of_clients (fun d => .inr (same d)) fun d => ?_, ⟨fun k hk settled => ?_, rfl⟩⟩ ?_
  · by_cases hd : d = c
    · exact .inl (by rw [client, if_pos hd]; exact idle)
    · rw [(State.heldLocks_of_append (t := s.createHold c n m) rfl d).trans (if_neg hd)]
      exact .inr (List.Subset.refl _)
  · have other := locks k (List.ne_of_not_mem_cons hk)
    exact settled.congr (by rw [other]) (by rw [other]) rfl fun d _ => same d
  · rw [State.settled_iff]
    intro d first
    rw [← Bool.not_eq_true]
    intro again
    obtain ⟨queued, eligible⟩ := (State.mem_eligibleWaiters _ n d).1 (List.mem_of_head? first)
    rw [lock] at again queued
    obtain ⟨before, after⟩ := stateAfterGrant_grantable adm again
    rw [State.eligible_congr (same d) rfl (by rw [lock]; simp [before, after])] at eligible
    simpa [unasked] using (s.mem_eligibleWaiters n d).2 ⟨queued, eligible⟩

theorem State.grantableAtOnce_of_grant {s : State} {a : AgentId} {n : LockId} {m : Mode} {k : Kind} {p : Priority}
    (h : s.grantDecision a n m k p = .grant) : s.grantableAtOnce n m = true := by
  unfold State.grantDecision at h
  split_ifs at h with _ _ now
  · exact absurd h (s.queueDecision_ne_grant a n k)
  · exact now
  · exact absurd h (s.queueDecision_ne_grant a n k)

theorem State.unasked_of_grantableAtOnce {s : State} {n : LockId} {m : Mode} (h : s.grantableAtOnce n m = true) :
    s.eligibleWaiters n = [] := by
  unfold State.grantableAtOnce at h
  exact List.isEmpty_iff.1 (Bool.and_eq_true_iff.1 h).2

/-- A TRY is never queued (R41). -/
theorem State.wait_of_enqueue {s : State} {a : AgentId} {n : LockId} {m : Mode} {k : Kind} {p : Priority}
    (h : s.grantDecision a n m k p = .enqueue) : k = .wait := by
  cases k
  case wait => rfl
  case tryOnce =>
    simp only [State.grantDecision, State.queueDecision, reduceIte] at h
    split_ifs at h

/-- A WAIT that is queued is for a lock that ranks above every lock its client holds (R68). -/
theorem State.rankKey_lt_of_enqueue {s : State} {a : AgentId} {c : ClientId} {n : LockId} {m : Mode} {k : Kind}
    {p : Priority} (h : s.acquireDecision a c n m k p = .enqueue) :
    ∀ l ∈ s.heldLocks c, s.rankKey n < s.rankKey l := by
  obtain ⟨-, queued⟩ := State.acquireDecision_of_passed h (by simp)
  unfold State.acquireDecision at h
  iterate 9 obtain ⟨-, h⟩ := check_passed h (by simp)
  have above := (check_passed h (by simp)).1
  have below : s.belowMark c n = false := by simpa [State.wait_of_enqueue queued] using above
  rw [s.belowMark_eq_any, List.any_eq_false] at below
  intro l hl
  obtain ⟨x, hx, rfl⟩ := List.mem_map.1 hl
  simpa [s.ranksAbove_iff] using below x hx

section
variable {owed : List LockId} {s : State} {c : ClientId} {n : LockId}

/-- A client that enters a queue stood in none. -/
theorem State.enqueue_settledBut (m : Mode) (p : Priority) (sound : s.WaitsSound)
    (idle : (s.client c).wait = none) : (s.enqueue c n m p).SettledBut (n :: owed) s := by
  refine ⟨fun k hk settled => ?_, rfl⟩
  have lock : (s.enqueue c n m p).lock k = s.lock k := by
    simp [State.enqueue, List.ne_of_not_mem_cons hk]
  refine settled.congr (by rw [lock]) (by rw [lock]) rfl fun d hd => .of_eq (s.enqueue_client_of_ne c n m p ?_)
  rintro rfl
  have waits := sound.waitsOn_of_mem hd
  simp [State.WaitsOn, idle] at waits

theorem State.rankKey_of_config {s t : State} (h : (t.lock n).config = (s.lock n).config) :
    t.rankKey n = s.rankKey n := by
  unfold State.rankKey
  rw [h]

theorem State.enqueue_config (m : Mode) (p : Priority) (k : LockId) :
    ((s.enqueue c n m p).lock k).config = (s.lock k).config := by
  by_cases hk : k = n <;> simp [State.enqueue, hk]

/-- The law of ranks after a WAIT is queued for a lock above every lock its client holds (R68, R69). -/
theorem State.RankSound.enqueue (rank : s.RankSound) (m : Mode) (p : Priority)
    (above : ∀ l ∈ s.heldLocks c, s.rankKey n < s.rankKey l) : (s.enqueue c n m p).RankSound := by
  have key : ∀ k, (s.enqueue c n m p).rankKey k = s.rankKey k := fun k =>
    State.rankKey_of_config (State.enqueue_config m p k)
  refine (State.rankSound_iff _).2 fun d k waits l held => ?_
  rw [State.heldLocks_of_reservation (s.enqueue_pool c n m p)] at held
  rw [key, key]
  by_cases hd : d = c
  · subst hd
    rw [State.WaitsOn, State.enqueue_client] at waits
    obtain rfl : n = k := Option.some.inj waits
    exact above l held
  · rw [State.waitsOn_of_client (s.enqueue_client_of_ne c n m p hd)] at waits
    exact s.rankSound_iff.1 rank d k waits l held

end

/-- The law of ranks where no wait begins and no lock in use changes its rank. -/
theorem State.RankSound.of_noNewWait {s t : State} (rank : s.RankSound) (kept : t.NoNewWait s)
    (config : ∀ c n, s.WaitsOn c n ∨ n ∈ s.heldLocks c → (t.lock n).config = (s.lock n).config) : t.RankSound := by
  refine t.rankSound_iff.2 fun c n waits m held => ?_
  have before := kept.waits c n waits
  have held := kept.held c n waits held
  rw [State.rankKey_of_config (config c n (.inl before)), State.rankKey_of_config (config c m (.inr held))]
  exact s.rankSound_iff.1 rank c n before m held

section
variable {owed : List LockId} {s : State}

theorem State.Agreed.createHold_orderly_of_grant (agreed : s.Agreed) {a : AgentId} {c : ClientId} {n : LockId}
    {m : Mode} {k : Kind} {p : Priority} (h : s.acquireDecision a c n m k p = .grant) :
    (s.createHold c n m).Orderly owed s := by
  obtain ⟨ready, -⟩ := State.acquireDecision_client h (by simp)
  obtain ⟨-, granted⟩ := State.acquireDecision_of_passed h (by simp)
  exact State.createHold_orderly ((agreed.client c).ready ready) (State.grantDecision_grant granted)
    (State.unasked_of_grantableAtOnce (State.grantableAtOnce_of_grant granted))

/-- An ACQUIRE starts no wait, or comes after the one it starts. -/
theorem State.Agreed.acquireOp_noNewWait (agreed : s.Agreed) (o : Origin) (n : LockId) (m : Mode) (k : Kind)
    (p : Priority) :
    (s.acquireOp o n m k p).NoNewWait s
      ∨ (s.acquireOp o n m k p).NoNewWait (s.enqueue o.client n m p)
        ∧ s.acquireDecision o.agent o.client n m k p = .enqueue := by
  unfold State.acquireOp
  split
  · exact .inl (State.answer_orderly (owed := []) ..).toNoNewWait
  · next h =>
    exact .inl ((State.answer_orderly ..).trans (agreed.createHold_orderly_of_grant (owed := []) h)).toNoNewWait
  · next h =>
    exact .inr ⟨(State.grantEval_noNewWait _ n).trans (State.answer_orderly (owed := []) ..).toNoNewWait, h⟩

theorem State.Agreed.acquireOp_settledBut (agreed : s.Agreed) (o : Origin) (n : LockId) (m : Mode) (k : Kind)
    (p : Priority) : (s.acquireOp o n m k p).SettledBut owed s := by
  unfold State.acquireOp
  split
  · exact (State.answer_orderly ..).toSettledBut
  · next h =>
    exact ((State.answer_orderly ..).trans (agreed.createHold_orderly_of_grant h)).toSettledBut
  · next h =>
    obtain ⟨ready, new, room⟩ := State.acquireDecision_client h (by simp)
    obtain ⟨-, queued⟩ := State.acquireDecision_of_passed h (by simp)
    have enqueued := agreed.enqueue m p ready new room (State.grantDecision_free queued (by simp))
    exact ((State.answer_orderly ..).toSettledBut.trans
      (State.enqueue_settledBut m p agreed.waits ((agreed.client o.client).ready ready))).grantEval
      (enqueued.answer ..)

/-- An ACQUIRE keeps the law of ranks (R68, R69). -/
theorem State.Agreed.acquireOp_rankSound (agreed : s.Agreed) (rank : s.RankSound) (o : Origin) (n : LockId)
    (m : Mode) (k : Kind) (p : Priority) : (s.acquireOp o n m k p).RankSound := by
  have config := (s.acquireOp_tableKept o n m k p).config
  rcases agreed.acquireOp_noNewWait o n m k p with kept | ⟨kept, queued⟩
  · exact rank.of_noNewWait kept fun _ l _ => config l
  · exact (rank.enqueue m p (State.rankKey_lt_of_enqueue queued)).of_noNewWait kept fun _ l _ =>
      (config l).trans (State.enqueue_config m p l).symm

/-! ### RELEASE, MARK_CLEAN, CANCEL, RENEW, MAIL -/

theorem State.Agreed.releaseOp_orderly (agreed : s.Agreed) (o : Origin) (n : LockId) :
    (s.releaseOp o n).Orderly owed s := by
  unfold State.releaseOp
  split
  · exact State.answer_orderly ..
  · split
    · split
      · exact (State.answer_orderly ..).trans (State.setRevoked_orderly o.client n false)
      · exact State.answer_orderly ..
    · next h found =>
      split
      · exact (State.answer_orderly ..).trans (agreed.makeDead_orderly o.client n)
      · have removed := State.removeHold_holdRemoved .free found
        obtain ⟨-, rfl, -⟩ := State.findHold_some found
        exact (State.answer_orderly ..).trans (removed.grantEval_orderly agreed)

theorem State.markCleanOp_orderly (o : Origin) (n : LockId) : (s.markCleanOp o n).Orderly owed s := by
  unfold State.markCleanOp
  split
  · exact State.answer_orderly ..
  · split
    · split <;> exact State.answer_orderly ..
    · split
      · refine (State.answer_orderly ..).trans ((State.setLock_orderly n _).of_settled ?_)
        exact State.settled_of_ungrantable fun m => by rw [State.setLock_lock, if_pos rfl]; rfl
      · exact State.answer_orderly ..

theorem State.Agreed.cancelOp_orderly (agreed : s.Agreed) (o : Origin) : (s.cancelOp o).Orderly owed s := by
  unfold State.cancelOp
  split
  · exact State.answer_orderly ..
  · exact State.answer_orderly ..
  · split
    · exact State.answer_orderly ..
    · next w hw =>
      have waits := State.waitsOn_of_wait hw
      have ended := s.cancelWait_ready_waitEnded o.client w.lock
      exact State.Orderly.grantEval ((State.answer_orderly ..).trans (ended.orderly agreed.waits waits))
        ((agreed.cancelWait_ready waits).answer ..)
  · split <;> exact State.answer_orderly ..

theorem State.renewOp_orderly (o : Origin) (n : LockId) : (s.renewOp o n).Orderly owed s := by
  unfold State.renewOp
  split
  · exact State.answer_orderly ..
  · split
    · split <;> exact State.answer_orderly ..
    · split
      · exact State.answer_orderly ..
      · exact State.Orderly.trans (State.answer_orderly ..)
          (State.updateHold_orderly o.client n fun _ => ⟨rfl, rfl⟩)

theorem State.mailOp_orderly (o : Origin) (target : AgentId) (payload : BitVec 16) :
    (s.mailOp o target payload).Orderly owed s := by
  unfold State.mailOp
  split_ifs
  case neg => exact (State.answer_orderly ..).trans (State.setNu_orderly target _)
  all_goals exact State.answer_orderly ..

/-! ### Expiries (R84, R87) -/

theorem State.warnHold_orderly (x : Hold) (countdown : Countdown) (phase : Phase) :
    (s.warnHold x countdown phase).Orderly owed s :=
  State.Orderly.trans (State.updateHold_orderly x.client x.lock fun _ => ⟨rfl, rfl⟩)
    (s.passUnreserved_noticePassed x false).orderly

theorem State.Agreed.expireHold_orderly {c : ClientId} {n : LockId} {x : Hold} (agreed : s.Agreed)
    (found : s.findHold c n = some x) : (s.expireHold x).Orderly owed s := by
  unfold State.expireHold
  split
  · exact agreed.revoke_orderly found
  · split
    · exact State.warnHold_orderly ..
    · exact agreed.revoke_orderly found
    · split
      · exact agreed.revoke_orderly found
      · exact State.warnHold_orderly ..

theorem State.Agreed.holdExpiryOp_orderly (agreed : s.Agreed) (c : ClientId) (n : LockId) :
    (s.holdExpiryOp c n).Orderly owed s := by
  unfold State.holdExpiryOp
  split
  · exact .refl s
  · next found =>
    split
    · exact agreed.expireHold_orderly found
    · exact .refl s

theorem State.Agreed.waitExpiryOp_orderly (agreed : s.Agreed) (c : ClientId) :
    (s.waitExpiryOp c).Orderly owed s := by
  unfold State.waitExpiryOp
  split
  · exact .refl s
  · next w hw =>
    split
    · refine (s.endWaitReported_waitEnded c w.lock .expired .expired).grantEval_orderly agreed
        (State.waitsOn_of_wait hw) ?_
      split
      · exact .inr rfl
      · exact .inl rfl
    · exact .refl s

/-! ### Attaching and detach requests (R113 to R117) -/

theorem State.Attached.orderly {t : State} {a : AgentId} (h : t.Attached s a)
    (idle : ∀ sl, (s.client (clientOf a sl)).wait = none) : t.Orderly owed s := by
  obtain ⟨-, -, client, frame⟩ := h
  refine .of_parts (fun m _ => by rw [frame]; exact ⟨rfl, rfl⟩) (fun c => ?_) (fun c => ?_) (by rw [frame])
    (by rw [frame])
  · rw [State.heldLocks_of_pool (by rw [frame])]
    exact List.Subset.refl _
  · rw [client]
    split
    · next ha =>
      have none : (s.client c).wait = none := by rw [← clientOf_agentOf_slotOf c, ha, idle]
      exact .of_idle none none
    · exact .refl _

/-- A detach request owes the evaluation of the locks its clients wait for (R67). -/
theorem State.MadeDetaching.orderly {u : State} {a : AgentId} {set : SlotSet} {scope : Scope}
    (h : u.MadeDetaching s a set scope) (sound : s.WaitsSound) : u.Orderly (s.waitLocks a set ++ owed) s := by
  have made := h.client
  obtain ⟨own, others, -, -, frame⟩ := h
  have su : u.su = s.su := by rw [frame]
  have lock : ∀ m, u.lock m = s.lock m := fun m => by rw [frame]; rfl
  refine ⟨⟨fun c n waits => ?_, fun c n _ => ?_⟩, ⟨fun m hm settled => ?_, by rw [su]⟩⟩
  · rcases made c with e | e <;> rwa [State.WaitsOn, e] at waits
  · rw [State.heldLocks_of_pool (by rw [frame])]
    exact List.Subset.refl _
  · refine settled.congr (by rw [lock]) (by rw [lock]) (by rw [su]) fun c hc => .of_eq ?_
    by_cases ha : agentOf c = a
    · have slot := own (slotOf c)
      rw [← ha, clientOf_agentOf_slotOf] at slot
      rw [slot, if_neg]
      intro member
      refine hm (List.mem_append_left _ (List.mem_filterMap.2 ⟨slotOf c, by simp [member], ?_⟩))
      rw [← ha, clientOf_agentOf_slotOf]
      exact sound.waitsOn_of_mem hc
    · exact others c ha

theorem State.Agreed.detachRequest_orderly (agreed : s.Agreed) (a : AgentId) (named : SlotSet) (scope : Scope) :
    (s.detachRequest a named scope).Orderly owed s := by
  obtain ⟨set, u, -, made, placed, -⟩ := s.detachRequest_requested a named scope
  have evaluated : ((s.waitLocks a set).foldl State.grantEval u).Orderly owed s :=
    State.Orderly.foldl_grantEval (made.orderly agreed.waits) (agreed.madeDetaching made)
  exact evaluated.congr (by rw [placed]) (by rw [placed]) (by rw [placed]) (by rw [placed]) (by rw [placed])

theorem State.attachAgent_orderly {a : AgentId} (idle : ∀ sl, (s.client (clientOf a sl)).wait = none) :
    (s.attachAgent a).Orderly owed s :=
  (s.attachAgent_attached a).orderly idle

theorem State.Agreed.assertLine_orderly (agreed : s.Agreed) (a : AgentId) : (s.assertLine a).Orderly owed s := by
  have level : (s.setLevel a true).Agreed := agreed.of_eq rfl rfl rfl rfl
  have changed : (s.setLevel a true).Orderly owed s := .of_eq rfl rfl rfl rfl rfl
  unfold State.assertLine
  split
  · exact .refl s
  · dsimp only
    split
    · exact (level.detachRequest_orderly a everySlot .agent).trans changed
    · exact changed

theorem State.Agreed.deassertLine_orderly (agreed : s.Agreed) (jobs : s.JobsSound) (a : AgentId) :
    (s.deassertLine a).Orderly owed s := by
  have changed : (s.setLevel a false).Orderly owed s := .of_eq rfl rfl rfl rfl rfl
  unfold State.deassertLine
  split
  · exact .refl s
  · dsimp only
    split
    · next h =>
      refine (State.attachAgent_orderly fun sl => ?_).trans changed
      rw [State.setLevel_eq, State.setLine_client]
      exact jobs.idle_of_detached agreed (by simpa using h.1) sl
    · exact changed

/-! ### The steps of the ACTIVE job (R118 to R123) -/

theorem State.Agreed.waitStepOp_orderly (agreed : s.Agreed) (jobs : s.JobsSound) :
    s.waitStepOp.Orderly owed s := by
  unfold State.waitStepOp
  split
  · next j sl active =>
    have reclaimed : (s.reclaimWait (clientOf j.agent sl)).Orderly owed s := by
      unfold State.reclaimWait
      split
      · exact .refl s
      · next w hw =>
        exact (s.cancelWait_waitEnded _ w.lock).grantEval_orderly agreed (State.waitsOn_of_wait hw)
          (.inr (jobs.detaching_of_waitStep active))
    exact reclaimed.congr rfl rfl rfl rfl rfl
  · exact .refl s

theorem State.Agreed.holdStepOp_orderly (agreed : s.Agreed) : s.holdStepOp.Orderly owed s := by
  unfold State.holdStepOp
  split
  · split
    · exact .of_eq rfl rfl rfl rfl rfl
    · next newest =>
      have found := State.findHold_of_nodup (List.mem_of_getLast? newest) (agreed.client _).nodup
      exact (State.removeHold_holdRemoved .orphaned found).grantEval_orderly agreed
  · exact .refl s

theorem State.flushStepOp_orderly : s.flushStepOp.Orderly owed s := by
  unfold State.flushStepOp
  split
  · exact .of_eq rfl rfl rfl rfl rfl
  · exact .refl s

/-- Contexts of clients that wait for nothing change, and no wait with them. -/
theorem State.changeClients_orderly {g : Client → Client} (hg : ∀ r, (g r).wait = r.wait) (a : AgentId)
    {slots : List Slot} (idle : ∀ sl ∈ slots, (s.client (clientOf a sl)).wait = none) :
    (s.changeClients g a slots).Orderly owed s
      ∧ ∀ d, ((s.changeClients g a slots).client d).wait = (s.client d).wait := by
  induction slots generalizing s with
  | nil => exact ⟨.refl s, fun _ => rfl⟩
  | cons sl slots ih =>
    have first := idle sl List.mem_cons_self
    have wait : ∀ d, ((s.setClient (clientOf a sl) (g (s.client (clientOf a sl)))).client d).wait =
        (s.client d).wait := fun d => by
      rw [State.setClient_client]
      split
      · next hd => rw [hg, hd]
      · rfl
    obtain ⟨later, waits⟩ := ih fun sm hsm => (wait _).trans (idle sm (List.mem_cons_of_mem sl hsm))
    exact ⟨later.trans (State.setClient_orderly (.of_idle first ((hg _).trans first))),
      fun d => (waits d).trans (wait d)⟩

theorem State.endClientJob_orderly {j : Job}
    (stripped : ∀ sl, j.named.get sl = true → s.Stripped (clientOf j.agent sl)) :
    (s.endClientJob j).Orderly owed s := by
  unfold State.endClientJob
  split
  · simp only [State.returnClient_eq]
    exact (State.changeClients_orderly (g := Client.returned) (fun _ => rfl) j.agent
      fun sl hsl => (stripped sl (List.mem_filter.1 hsl).2).1).1
  · exact .of_eq rfl rfl rfl rfl rfl
  · exact .refl s

theorem State.endJob_orderly : s.endJob.Orderly owed s := by
  obtain ⟨frame, su, -⟩ := s.endJob_jobEnded
  exact .of_eq (by rw [frame]) (by rw [frame]) (by rw [frame]) (by rw [su]) (by rw [su])

theorem State.clientJobFinalOp_orderly (jobs : s.JobsSound) : s.clientJobFinalOp.Orderly owed s := by
  unfold State.clientJobFinalOp
  split
  · next j active =>
    split
    · exact State.endJob_orderly.trans (State.endClientJob_orderly fun sl hsl => jobs.stripped_of_final active hsl)
    · exact .refl s
  · exact .refl s

theorem State.endAgentJob_orderly {a : AgentId} (stripped : ∀ sl, s.Stripped (clientOf a sl)) :
    (s.endAgentJob a).Orderly owed s := by
  have turned : allSlots.foldl (fun s sl => s.turnOffClient (clientOf a sl)) s =
      s.changeClients Client.turnedOff a allSlots := rfl
  obtain ⟨off, wait⟩ := State.changeClients_orderly (owed := owed) (g := Client.turnedOff) (fun _ => rfl) a
    (slots := allSlots) fun sl _ => (stripped sl).1
  have detached : ∀ u : State, ((u.flushAgent a).setAttach a .detached).Orderly owed u := fun u =>
    .of_eq rfl rfl rfl rfl rfl
  unfold State.endAgentJob
  dsimp only
  rw [turned]
  split
  · refine (State.attachAgent_orderly fun sl => ?_).trans ((detached _).trans off)
    rw [State.setAttach_eq, State.setLine_client, State.flushAgent_eq, State.setNu_client, wait, (stripped sl).1]
  · exact (detached _).trans off

theorem State.agentJobFinalOp_orderly (jobs : s.JobsSound) : s.agentJobFinalOp.Orderly owed s := by
  unfold State.agentJobFinalOp
  split
  · next j active =>
    split
    · next scope =>
      exact State.endJob_orderly.trans (State.endAgentJob_orderly fun sl =>
        jobs.stripped_of_final active (jobs.named_of_agentScope active scope sl))
    · exact .refl s
  · exact .refl s

end

end Sys2Proof.Machine
end

section
/-! What the commands do to waiters (R69, R78): every command keeps the law of ranks and leaves an idle sweep no
grantable waiter. -/

namespace Sys2Proof.Machine

/-! ### Commands that start no wait and leave the sweep where it is -/

/-- The commands with arguments of their own: an ACQUIRE may start a wait, and the rest move the sweep. -/
def startsWaitOrMovesSweep : Instr → Bool
  | .acquire .. => true
  | .claimRead _ _ => true
  | .gateWrite _ => true
  | .sweepStep => true
  | .softReset _ => true
  | .powerOnReset _ => true
  | _ => false

section
variable {owed : List LockId} {s : State}

theorem State.setBusData_orderly (s : State) (w : Word) : (s.setBusData w).Orderly owed s :=
  .of_eq rfl rfl rfl rfl rfl

theorem State.setSResult_orderly (s : State) (r : SupResult) (code : BitVec 4) (number : Fin 64) :
    (s.setSResult r code number).Orderly owed s :=
  .of_eq rfl rfl rfl rfl rfl

theorem State.writePlain_orderly (r : PlainReg) (w : Word) : (s.writePlain r w).Orderly owed s := by
  cases r
  case waitlim a sl => exact State.setClient_orderly ⟨rfl, fun _ => Iff.rfl⟩
  all_goals exact .of_eq rfl rfl rfl rfl rfl

/-- A lock without waiters, or one whose state admits no grant, is settled whatever becomes of its record. -/
theorem State.setLock_setSResult_orderly {n : LockId} {l : LockRecord}
    (settled : l = s.lock n ∨ l.queue = [] ∨ ∀ m, l.state.grantable m = false) (r : SupResult) (code : BitVec 4)
    (number : Fin 64) : ((s.setLock n l).setSResult r code number).Orderly owed s := by
  have changed : (s.setLock n l).Orderly owed s := by
    rcases settled with rfl | empty | closed
    · rw [State.setLock_self]
      exact .refl s
    · exact (State.setLock_orderly n l).of_settled (State.settled_of_empty (by simpa using empty))
    · exact (State.setLock_orderly n l).of_settled (State.settled_of_ungrantable (by simpa using closed))
  exact (State.setSResult_orderly ..).trans changed

theorem exec_accessMisuse_orderly (access : BusAccess) :
    ∃ t, exec (.accessMisuse access) s = .next t ∧ t.Orderly owed s := by
  show ∃ t, execAccessMisuse access s = .next t ∧ t.Orderly owed s
  unfold execAccessMisuse
  cases access.write <;> exact ⟨_, rfl, .of_eq rfl rfl rfl rfl rfl⟩

theorem exec_detachClient_orderly (agreed : s.Agreed) (number : Fin 64) :
    ∃ t, exec (.detachClient number) s = .next t ∧ t.Orderly owed s := by
  refine ⟨_, rfl, ?_⟩
  split
  · exact (State.setSResult_orderly ..).trans (agreed.detachRequest_orderly (agentOf (clientOfNumber number))
      (onlySlot (slotOf (clientOfNumber number))) .client)
  · exact State.setSResult_orderly ..

theorem exec_detachAgent_orderly (agreed : s.Agreed) (number : Fin 64) :
    ∃ t, exec (.detachAgent number) s = .next t ∧ t.Orderly owed s := by
  refine ⟨_, rfl, ?_⟩
  split
  · exact (State.setSResult_orderly ..).trans (agreed.detachRequest_orderly (agentOfNumber number) everySlot .agent)
  · exact State.setSResult_orderly ..
  · exact State.setSResult_orderly ..

theorem exec_attach_orderly (agreed : s.Agreed) (jobs : s.JobsSound) (number : Fin 64) :
    ∃ t, exec (.attach number) s = .next t ∧ t.Orderly owed s := by
  refine ⟨_, rfl, ?_⟩
  split
  · exact State.setSResult_orderly ..
  · exact State.setSResult_orderly ..
  · next detached =>
    split
    · exact State.setSResult_orderly ..
    · exact (State.setSResult_orderly ..).trans
        (State.attachAgent_orderly (jobs.idle_of_detached agreed detached))

theorem exec_tick_orderly : ∃ t, exec .tick s = .next t ∧ t.Orderly owed s := by
  refine ⟨_, rfl, ?_⟩
  split
  · exact State.tick_orderly
  · exact .refl s

/-- SETCFG changes no state and no queue (R2). -/
theorem exec_setcfg_orderly (n : LockId) : ∃ t, exec (.setcfg n) s = .next t ∧ t.Orderly owed s := by
  refine ⟨_, exec_setcfg n s, .of_parts (fun m _ => ?_) (fun _ => List.Subset.refl _) (fun _ => .refl _) rfl rfl⟩
  rw [State.setSResult_eq, State.setSu_lock, State.setLock_lock]
  split
  · next hm =>
    rw [hm]
    split <;> exact ⟨rfl, rfl⟩
  · exact ⟨rfl, rfl⟩

/-- An OFFLINE or DEAD lock has no waiters (R4). -/
theorem State.LockSound.queue_of_closed {n : LockId} (sound : s.LockSound n) (closed : (s.lock n).state.closed) :
    (s.lock n).queue = [] := by
  obtain ⟨-, empty, -⟩ := sound
  exact empty closed

/-- ONLINE makes an OFFLINE lock FREE, which has no waiters (R4, R11). -/
theorem exec_online_orderly (locks : s.LocksSound) (n : LockId) :
    ∃ t, exec (.online n) s = .next t ∧ t.Orderly owed s := by
  refine ⟨_, exec_online n s, State.setLock_setSResult_orderly ?_ ..⟩
  split
  · next offline => exact .inr (.inl ((locks n).queue_of_closed (.inl offline)))
  · exact .inl rfl

theorem exec_offline_orderly (n : LockId) : ∃ t, exec (.offline n) s = .next t ∧ t.Orderly owed s := by
  refine ⟨_, exec_offline n s, State.setLock_setSResult_orderly ?_ ..⟩
  split
  · exact .inr (.inr fun _ => rfl)
  · exact .inl rfl

/-- RESTORE makes a DEAD lock FREE, which has no waiters (R4, R12). -/
theorem exec_restore_orderly (locks : s.LocksSound) (n : LockId) :
    ∃ t, exec (.restore n) s = .next t ∧ t.Orderly owed s := by
  refine ⟨_, exec_restore n s, State.setLock_setSResult_orderly ?_ ..⟩
  split
  · next dead => exact .inr (.inl ((locks n).queue_of_closed (.inr dead)))
  · exact .inl rfl

/-- Every command but these starts no wait, leaves the sweep where it is, and every settled lock settled. -/
theorem exec_orderly {i : Instr} (hi : startsWaitOrMovesSweep i = false) (h : s.Sound) :
    ∃ t, exec i s = .next t ∧ t.Orderly owed s := by
  have agreed := h.agreed
  have jobs := h.jobs
  cases i
  case acquire => cases hi
  case claimRead => cases hi
  case gateWrite => cases hi
  case sweepStep => cases hi
  case softReset => cases hi
  case powerOnReset => cases hi
  case release => exact ⟨_, rfl, agreed.releaseOp_orderly ..⟩
  case cancel => exact ⟨_, rfl, agreed.cancelOp_orderly _⟩
  case renew => exact ⟨_, rfl, State.renewOp_orderly ..⟩
  case markClean => exact ⟨_, rfl, State.markCleanOp_orderly ..⟩
  case mail => exact ⟨_, rfl, State.mailOp_orderly ..⟩
  case badOpcode => exact ⟨_, rfl, State.answer_orderly ..⟩
  case claimWrite => exact ⟨_, rfl, agreed.releaseOp_orderly ..⟩
  case accessMisuse access => exact exec_accessMisuse_orderly access
  case registerWrite => exact ⟨_, rfl, State.writePlain_orderly ..⟩
  case setcfg n => exact exec_setcfg_orderly n
  case online n => exact exec_online_orderly h.locks n
  case offline n => exact exec_offline_orderly n
  case restore n => exact exec_restore_orderly h.locks n
  case detachClient number => exact exec_detachClient_orderly agreed number
  case detachAgent number => exact exec_detachAgent_orderly agreed number
  case attach number => exact exec_attach_orderly agreed jobs number
  case resetAssertion => exact ⟨_, rfl, agreed.assertLine_orderly _⟩
  case resetDeassertion => exact ⟨_, rfl, agreed.deassertLine_orderly jobs _⟩
  case tick => exact exec_tick_orderly
  case holdExpiry => exact ⟨_, rfl, agreed.holdExpiryOp_orderly ..⟩
  case waitExpiry => exact ⟨_, rfl, agreed.waitExpiryOp_orderly _⟩
  case waitStep => exact ⟨_, rfl, agreed.waitStepOp_orderly jobs⟩
  case holdStep => exact ⟨_, rfl, agreed.holdStepOp_orderly⟩
  case flushStep => exact ⟨_, rfl, State.flushStepOp_orderly⟩
  case clientJobFinalStep => exact ⟨_, rfl, State.clientJobFinalOp_orderly jobs⟩
  case agentJobFinalStep => exact ⟨_, rfl, State.agentJobFinalOp_orderly jobs⟩
  all_goals exact ⟨_, rfl, .of_eq rfl rfl rfl rfl rfl⟩

theorem State.clockPeriod_orderly : s.clockPeriod.Orderly owed s := by
  unfold State.clockPeriod
  split
  · split
    · exact State.tick_orderly
    · exact .of_eq rfl rfl rfl rfl rfl
  · exact .refl s

end

/-! ### The sweep and the resets -/

/-- The law of R78 where the sweep stands. -/
theorem State.SweepSound.of_settledBut {s t : State} (sweep : s.SweepSound) (kept : t.SettledBut [] s) :
    t.SweepSound := by
  obtain ⟨idle, passed⟩ := sweep
  have settled : ∀ n, s.Settled n → t.Settled n := fun n => kept.settled n (by simp)
  unfold State.SweepSound
  rw [kept.sweep]
  exact ⟨fun stopped n => settled n (idle stopped n), fun running clear n hn => settled n (passed running clear n hn)⟩

theorem State.sweepSound_of_idle {s : State} (stopped : s.su.sweep.running = false)
    (queue : ∀ n, (s.lock n).queue = []) : s.SweepSound :=
  ⟨fun _ n => State.settled_of_empty (queue n), fun running => by simp [stopped] at running⟩

theorem State.rankSound_of_idle {s : State} (idle : ∀ c, (s.client c).wait = none) : s.RankSound :=
  fun c n waits => by simp [State.WaitsOn, idle] at waits

/-- The SU holds no wait and no hold. -/
theorem State.setSu_noNewWait (s : State) (u : Supervisor) : (s.setSu u).NoNewWait s :=
  ⟨fun _ _ waits => waits, fun _ _ _ => List.Subset.refl _⟩

theorem Supervisor.swept_gate (u : Supervisor) : u.swept.gate = u.gate := by
  unfold Supervisor.swept
  split_ifs <;> rfl

theorem State.softReset_wait (s : State) (c : ClientId) : (s.softReset.client c).wait = none := by
  simp [State.softReset, Client.softReset]

section
variable {s : State}

/-- A raise of the gate starts a pass, which has passed no lock yet, or sets AGAIN; a gate that is not raised makes
no waiter grantable (R70, R72). -/
theorem State.Sound.writeGate_sweepSound (h : s.Sound) (w : Word) : (s.writeGate w).SweepSound := by
  obtain ⟨idle, passed⟩ := h.sweep
  have sweep := s.writeGate_sweep w
  unfold State.SweepSound
  by_cases lower : (s.writeGate w).su.gate.val ≤ s.su.gate.val
  · have settled : ∀ n, s.Settled n → (s.writeGate w).Settled n := fun n settled =>
      settled.of_lower_gate h.waits rfl rfl lower
    rw [if_pos lower] at sweep
    rw [sweep]
    exact ⟨fun stopped n => settled n (idle stopped n),
      fun running clear n hn => settled n (passed running clear n hn)⟩
  · rw [if_neg lower] at sweep
    rw [sweep]
    split
    · next running => exact ⟨fun stopped => by simp [running] at stopped, fun _ clear => by simp at clear⟩
    · exact ⟨fun stopped => by simp at stopped, fun _ _ n hn => absurd hn (Fin.not_lt_zero n)⟩

theorem State.sweepLock_orderly (agreed : s.Agreed) (n : LockId) : (s.sweepLock n).Orderly [] s := by
  unfold State.sweepLock
  split
  · exact .refl s
  · exact State.Orderly.grantEval (.refl s) agreed

/-- A sweep step leaves its lock settled: an OFFLINE lock admits no grant. -/
theorem State.sweepLock_settled (sound : s.WaitsSound) (n : LockId) : (s.sweepLock n).Settled n := by
  unfold State.sweepLock
  split
  · next offline => exact State.settled_of_ungrantable fun m => by rw [offline]; rfl
  · exact State.grantEval_settled (sound.nodup n)

theorem State.sweepStepOp_of_idle (stopped : ¬ s.su.sweep.running = true) : s.sweepStepOp = s := by
  unfold State.sweepStepOp
  rw [if_neg stopped]

theorem State.sweepStepOp_noNewWait (agreed : s.Agreed) : s.sweepStepOp.NoNewWait s := by
  by_cases running : s.su.sweep.running = true
  · rw [State.sweepStepOp_of_running running]
    exact (State.setSu_noNewWait _ _).trans (State.sweepLock_orderly agreed _).toNoNewWait
  · rw [State.sweepStepOp_of_idle running]
    exact .refl s

/-- After a sweep step with AGAIN clear, every lock up to that of the step is settled: those passed before it were
so, and it settles its own (R78). -/
theorem State.Sound.settled_after_sweepStep (h : s.Sound) (running : s.su.sweep.running = true)
    (clear : s.su.sweep.again = false) {n : LockId} (le : n ≤ s.su.sweep.position) :
    ((s.sweepLock s.su.sweep.position).setSu s.su.swept).Settled n := by
  obtain ⟨-, passed⟩ := h.sweep
  have evaluated : (s.sweepLock s.su.sweep.position).Settled n := by
    rcases le.lt_or_eq with lt | rfl
    · exact (State.sweepLock_orderly h.agreed _).settled n (by simp) (passed running clear n lt)
    · exact State.sweepLock_settled h.waits _
  exact evaluated.congr rfl rfl (by rw [State.setSu_su, Supervisor.swept_gate, State.sweepLock_su]) fun _ _ => .refl _

/-- Below lock 63 one more lock is passed; after lock 63 every lock is, and the sweep is idle, or it starts over
(R76, R78). -/
theorem State.Sound.sweepStepOp_sweepSound (h : s.Sound) : s.sweepStepOp.SweepSound := by
  by_cases running : s.su.sweep.running = true
  · have reached := fun clear n (le : n ≤ s.su.sweep.position) => h.settled_after_sweepStep running clear le
    rw [State.sweepStepOp_of_running running]
    unfold State.SweepSound
    rw [State.setSu_su]
    generalize (s.sweepLock s.su.sweep.position).setSu s.su.swept = v at reached ⊢
    unfold Supervisor.swept
    split_ifs with below again
    · refine ⟨fun stopped => by simp [running] at stopped, fun _ clear n hn => reached clear n ?_⟩
      rw [Fin.lt_def, Fin.val_add_one_of_lt' (by omega)] at hn
      exact Fin.le_def.2 (by omega)
    · exact ⟨fun stopped => by simp at stopped, fun _ _ n hn => absurd hn (Fin.not_lt_zero n)⟩
    · exact ⟨fun _ n => reached (by simpa using again) n (Fin.le_def.2 (by omega)), fun going => by simp at going⟩
  · rw [State.sweepStepOp_of_idle running]
    exact h.sweep

end

/-! ### Every command and every step -/

section
variable {s t : State}

/-- Only the configuration of a lock that nobody waits for or holds changes, the power-on reset excepted (R2,
R4). -/
theorem State.Sound.config_of_used (h : s.Sound) {i : Instr} (ht : exec i s = .next t)
    (hi : ∀ levels, i ≠ .powerOnReset levels) {c : ClientId} {n : LockId}
    (used : s.WaitsOn c n ∨ n ∈ s.heldLocks c) : (t.lock n).config = (s.lock n).config := by
  by_contra changed
  rcases configurationChangesOnlyBySetcfg i s t n ht changed with ⟨-, offline⟩ | ⟨levels, power⟩
  · rcases used with waits | held
    · have queued := h.waits.mem_of_waitsOn waits
      simp [(h.locks n).queue_of_closed (.inl offline)] at queued
    · obtain ⟨agree, -⟩ := h.locks n
      obtain ⟨x, hx, lock⟩ := List.mem_map.1 held
      have holder := (s.mem_holders_iff n x).2 ⟨((s.mem_heldList_iff c x).1 hx).1, lock⟩
      rw [offline] at agree
      have none : s.holders n = [] := agree
      simp [none] at holder
  · exact hi levels power

/-- A command that starts no wait keeps the law of ranks. -/
theorem State.Sound.rankSound_of_exec (h : s.Sound) {i : Instr} (ht : exec i s = .next t)
    (hi : ∀ levels, i ≠ .powerOnReset levels) (kept : t.NoNewWait s) : t.RankSound :=
  h.rank.of_noNewWait kept fun _ _ used => h.config_of_used ht hi used

/-- Every command keeps the law of ranks. -/
theorem exec_rankSound (i : Instr) (h : s.Sound) : ∃ t, exec i s = .next t ∧ t.RankSound := by
  cases hi : startsWaitOrMovesSweep i
  case false =>
    obtain ⟨t, ht, orderly⟩ := exec_orderly (owed := []) hi h
    exact ⟨t, ht, h.rankSound_of_exec ht (by rintro levels rfl; cases hi) orderly.toNoNewWait⟩
  case true =>
    cases i <;> cases hi
    case acquire => exact ⟨_, rfl, h.agreed.acquireOp_rankSound h.rank _ _ _ _ _⟩
    case claimRead a n =>
      have acquired := h.agreed.acquireOp_rankSound h.rank (Origin.claimRead a (s.window a) n) n .exclusive .tryOnce
        (s.window a).priority
      exact ⟨_, rfl, acquired.of_noNewWait (State.setBusData_orderly (owed := []) _ _).toNoNewWait fun _ _ _ => rfl⟩
    case gateWrite w =>
      exact ⟨_, rfl, h.rankSound_of_exec (i := .gateWrite w) rfl (by simp) (s.setSu_noNewWait _)⟩
    case sweepStep =>
      exact ⟨_, rfl, h.rankSound_of_exec (i := .sweepStep) rfl (by simp) (State.sweepStepOp_noNewWait h.agreed)⟩
    case softReset => exact ⟨_, rfl, State.rankSound_of_idle s.softReset_wait⟩
    case powerOnReset levels =>
      exact ⟨_, rfl, State.rankSound_of_idle fun c => by rw [State.powerOn_client]; rfl⟩

/-- Every command keeps the law of the sweep. -/
theorem exec_sweepSound (i : Instr) (h : s.Sound) : ∃ t, exec i s = .next t ∧ t.SweepSound := by
  cases hi : startsWaitOrMovesSweep i
  case false =>
    obtain ⟨t, ht, orderly⟩ := exec_orderly hi h
    exact ⟨t, ht, h.sweep.of_settledBut orderly.toSettledBut⟩
  case true =>
    cases i <;> cases hi
    case acquire => exact ⟨_, rfl, h.sweep.of_settledBut (h.agreed.acquireOp_settledBut ..)⟩
    case claimRead a n =>
      have acquired := h.agreed.acquireOp_settledBut (owed := []) (Origin.claimRead a (s.window a) n) n .exclusive
        .tryOnce (s.window a).priority
      exact ⟨_, rfl, h.sweep.of_settledBut
        ((State.setBusData_orderly _ _).toSettledBut.trans acquired)⟩
    case gateWrite w => exact ⟨_, rfl, h.writeGate_sweepSound w⟩
    case sweepStep => exact ⟨_, rfl, h.sweepStepOp_sweepSound⟩
    case softReset =>
      exact ⟨_, rfl, State.sweepSound_of_idle rfl fun n => by rw [State.softReset_lock]; rfl⟩
    case powerOnReset levels =>
      exact ⟨_, rfl, State.sweepSound_of_idle rfl fun n => by rw [State.powerOn_lock]; rfl⟩

/-- What holds after an idle clock period and after every command on the rest of the queue holds after a step. -/
theorem of_step {P : State → Prop} (ht : step s = .next t) (idle : P s.clockPeriod)
    (command : ∀ i rest, ∃ u, exec i { s with pending := rest } = .next u ∧ P u) : P t := by
  unfold step at ht
  split at ht
  · exact Host.Outcome.next.inj ht ▸ idle
  · next i rest _ =>
    obtain ⟨u, hu, holds⟩ := command i rest
    exact Host.Outcome.next.inj (hu.symm.trans ht) ▸ holds

/-- The queue of commands is no state of the part (log 1). -/
theorem State.Sound.pending (h : s.Sound) (rest : List Instr) : State.Sound { s with pending := rest } :=
  ⟨h.locks, h.waits, h.clients, h.pool, h.notices, h.denial, h.rank, h.jobs, h.sweep⟩

end

/-- Settles O53: a WAIT is queued above the mark of its client, and nothing else starts a wait, gives a waiting
client a hold, or changes the rank of a lock in use. -/
theorem rankOrderIsKept : Obligations.RankOrderIsKept := fun s _ h ht =>
  of_step ht
    (h.rank.of_noNewWait (State.clockPeriod_orderly (owed := [])).toNoNewWait fun _ n _ =>
      s.clockPeriod_tableKept.config n)
    fun i rest => exec_rankSound i (h.pending rest)

/-- Settles O55: every happening evaluates the locks it could leave a grantable waiter on, a raise of the gate
starts the sweep or sets AGAIN, and each sweep step settles its lock. -/
theorem idleSweepLeavesNoGrantableWaiter : Obligations.IdleSweepLeavesNoGrantableWaiter := fun _ _ h ht =>
  of_step ht (h.sweep.of_settledBut State.clockPeriod_orderly.toSettledBut)
    fun i rest => exec_sweepSound i (h.pending rest)

end Sys2Proof.Machine
end

section
/-! The time base (R79 to R82): its registers, the tick, and the clock period of a step on an empty queue. -/

namespace Sys2Proof.Machine

/-! ### The registers -/

/-- A write of TBCTRL stores both fields; only the prescaler count asks what was in force (R80). -/
theorem TimeBase.writeCtrl_eq (t : TimeBase) (w : Word) :
    t.writeCtrl w =
      { t with
        run := w.getLsbD 0
        prescale := w.extractLsb' 16 16
        prescalerCount :=
          if t.run = true ∧ w.getLsbD 0 = true ∧ w.extractLsb' 16 16 = t.prescale then t.prescalerCount else 0 } := by
  by_cases same : t.run = true ∧ w.getLsbD 0 = true ∧ w.extractLsb' 16 16 = t.prescale
  · have repeated : (t.run && w.getLsbD 0 && w.extractLsb' 16 16 == t.prescale) = true := by
      simpa [and_assoc] using same
    obtain ⟨running, run, prescale⟩ := same
    rw [if_pos ⟨running, run, prescale⟩, run, prescale, ← running]
    exact if_pos repeated
  · have disturbed : ¬ (t.run && w.getLsbD 0 && w.extractLsb' 16 16 == t.prescale) = true := by
      simpa [and_assoc] using same
    rw [if_neg same]
    exact if_neg disturbed

theorem TimeBase.writeNow_eq (t : TimeBase) (w : Word) :
    t.writeNow w = { t with now := if t.run = true then t.now else w } := by
  unfold TimeBase.writeNow
  split <;> rfl

/-- Settles O23, from what each register keeps of a write. -/
theorem timeBaseRegisterWrites : Obligations.TimeBaseRegisterWrites := fun w s =>
  ⟨congrArg (fun t => Host.Outcome.next (s.setTb t)) (s.tb.writeCtrl_eq w),
    congrArg (fun t => Host.Outcome.next (s.setTb t)) (s.tb.writeNow_eq w)⟩

/-! ### The tick -/

/-- A TICK command takes a tick while the time base runs, and is none while it is halted (R80, log 4). -/
theorem exec_tick (s : State) : exec .tick s = .next (if s.tb.run = true then s.tick else s) := rfl

/-- Settles O35. -/
theorem tickDecrementsEveryArmedCountdown : Obligations.TickDecrementsEveryArmedCountdown := by
  intro s down
  have down_eq : down = tickDown := by
    funext c
    cases c <;> rfl
  refine ⟨fun halted => ?_, fun running => ?_⟩
  · rw [exec_tick, if_neg (by simp [halted])]
  · refine ⟨s.tick, ?_, rfl, fun c => ?_, ?_, rfl⟩
    · rw [exec_tick, if_pos running]
    · rw [down_eq]
      exact State.mapClients_client _ _ c
    · rw [down_eq]
      refine List.map_congr_left fun r _ => ?_
      cases r <;> rfl

/-! ### The clock period -/

theorem step_of_idle {s : State} (idle : s.pending = []) : step s = .next s.clockPeriod := by
  unfold step
  rw [idle]

theorem State.clockPeriod_of_halted {s : State} (halted : s.tb.run = false) : s.clockPeriod = s :=
  if_neg (by simp [halted])

theorem State.clockPeriod_of_running {s : State} (running : s.tb.run = true) :
    s.clockPeriod =
      if (s.tb.prescale.toNat + 1) * 64 ≤ s.tb.prescalerCount + 1 then s.tick
      else s.setTb { s.tb with prescalerCount := s.tb.prescalerCount + 1 } :=
  if_pos running

/-- Settles O2: the three clauses are the branches of the clock period. -/
theorem idleStepIsOneClockPeriod : Obligations.IdleStepIsOneClockPeriod := by
  intro s idle
  rw [step_of_idle idle]
  refine ⟨fun halted => ?_, fun running within => ?_, fun running ends => ?_⟩
  · rw [State.clockPeriod_of_halted halted]
  · rw [State.clockPeriod_of_running running, if_neg (Nat.not_le.2 within)]
    rfl
  · rw [State.clockPeriod_of_running running, if_pos ends, exec_tick, if_pos running]

end Sys2Proof.Machine
end

section
/-! Hold budgets and wait limits: RENEW (R91), the expiries of due countdowns (R84, R87 to R89), and the
happenings that are not due (R83, log 4). -/

namespace Sys2Proof.Machine

/-! ### RENEW (R91) -/

/-- A RENEW of any origin does what R91 says. -/
theorem State.renewOp_renewTaken (s : State) (o : Origin) (n : LockId) : (s.renewOp o n).RenewTaken s o n := by
  unfold State.renewOp State.RenewTaken
  dsimp only
  rw [firstApplying_append, firstApplying_append, s.firstApplying_holderChecks]
  cases s.holderCheck o.client n with
  | some r => exact s.answer_answered ..
  | none =>
    cases found : s.findHold o.client n with
    | none =>
      rw [State.firstApplying_noHoldChecks_of_none found]
      simp only [Option.none_or, Option.some_or]
      split <;> exact s.answer_answered ..
    | some h =>
      rw [State.firstApplying_noHoldChecks_of_some found]
      have check : (!(s.lock n).config.renewable || (s.lock n).config.budget == 0) = true ↔
          (s.lock n).config.renewable = false ∨ (s.lock n).config.budget = 0 := by simp
      simp only [firstApplying_cons, firstApplying_nil, Option.none_or, check]
      by_cases fixed : (s.lock n).config.renewable = false ∨ (s.lock n).config.budget = 0
      · simp only [if_pos fixed]
        exact s.answer_answered ..
      · simp only [if_neg fixed, State.updateHold_eq]
        exact ⟨h, rfl, State.answer_answered ..⟩

/-- Settles O10, for the origin of an ACMD word. -/
theorem renewFollowsItsChecks : Obligations.RenewFollowsItsChecks := fun _ _ n _ s =>
  ⟨_, rfl, s.renewOp_renewTaken _ n⟩

/-! ### The expiry of a hold (R87 to R89) -/

theorem isDue_iff (c : Countdown) : isDue c = true ↔ c = some 0 :=
  beq_iff_eq

/-- Everything a revoke does (R89). -/
theorem State.revoke_revoked {s : State} {c : ClientId} {n : LockId} {h : Hold} (found : s.findHold c n = some h) :
    (s.revoke h).Revoked s h :=
  ⟨s.removeHold h .orphaned, (s.removeHold h .orphaned).setRevoked h.client h.lock true, _,
    State.removeHold_holdRemoved .orphaned found, State.setClient_clientChanged _ h.client _,
    State.passUnreserved_noticePassed _ h true, rfl⟩

/-- Everything a warning does (R87, R88). -/
theorem State.warnHold_warned (s : State) (h : Hold) (countdown : Countdown) (phase : Phase) :
    (s.warnHold h countdown phase).Warned s h countdown phase := by
  have passed := s.passUnreserved_noticePassed h false
  have pool : (s.passUnreserved h.client (h.notice false)).pool = s.pool := by
    obtain ⟨-, -, frame⟩ := passed
    rw [frame]
  refine ⟨_, passed, ?_⟩
  rw [← pool]
  exact State.updateHold_eq ..

/-- The three courses of a hold expiry (R87): which of them is taken is the phase's and the lock's. -/
theorem State.expireHold_eq (s : State) (h : Hold) :
    s.expireHold h =
      if h.phase = .grace ∨ (s.lock h.lock).config.action = .revoke
          ∨ ((s.lock h.lock).config.action = .warnRevoke ∧ (s.lock h.lock).config.grace = 0) then s.revoke h
      else if (s.lock h.lock).config.action = .warn then s.warnHold h none .budget
      else s.warnHold h (some (s.lock h.lock).config.grace) .grace := by
  unfold State.expireHold
  cases h.phase with
  | grace => simp
  | budget => cases (s.lock h.lock).config.action <;> simp

theorem State.holdExpiryOp_of_due {s : State} {c : ClientId} {n : LockId} {h : Hold}
    (found : s.findHold c n = some h) (due : h.countdown = some 0) : s.holdExpiryOp c n = s.expireHold h := by
  simp only [State.holdExpiryOp, found, if_pos ((isDue_iff _).2 due)]

theorem State.holdExpiryOp_of_not_due {s : State} {c : ClientId} {n : LockId}
    (notDue : ∀ h, s.findHold c n = some h → h.countdown ≠ some 0) : s.holdExpiryOp c n = s := by
  unfold State.holdExpiryOp
  split
  · rfl
  · next h found => exact if_neg fun due => notDue h found ((isDue_iff _).1 due)

/-- Settles O36: each of the three courses does what R87 to R89 say. -/
theorem holdExpiryWarnsOrRevokes : Obligations.HoldExpiryWarnsOrRevokes := by
  intro c n h s found due cfg
  obtain ⟨-, rfl, -⟩ := State.findHold_some found
  refine ⟨s.expireHold h, congrArg Host.Outcome.next (State.holdExpiryOp_of_due found due), ?_⟩
  rw [s.expireHold_eq]
  split
  · exact State.revoke_revoked found
  · split
    · exact s.warnHold_warned h none .budget
    · exact s.warnHold_warned h _ .grace

/-! ### The expiry of a wait (R84) -/

theorem State.waitExpiryOp_of_due {s : State} {c : ClientId} {w : WaitRecord} (waits : (s.client c).wait = some w)
    (due : w.countdown = some 0) :
    s.waitExpiryOp c = (s.endWaitReported c w.lock .expired .expired).grantEval w.lock := by
  simp only [State.waitExpiryOp, waits, if_pos ((isDue_iff _).2 due)]

theorem State.waitExpiryOp_of_not_due {s : State} {c : ClientId}
    (notDue : ∀ w, (s.client c).wait = some w → w.countdown ≠ some 0) : s.waitExpiryOp c = s := by
  unfold State.waitExpiryOp
  split
  · rfl
  · next w waits => exact if_neg fun due => notDue w waits ((isDue_iff _).1 due)

/-- Settles O37: the reported end of the wait, silent for a DETACHING client, and grant evaluation after it. -/
theorem waitExpiryEndsTheWait : Obligations.WaitExpiryEndsTheWait := by
  intro c w s waits due
  refine ⟨_, s.endWaitReported c w.lock .expired .expired,
    congrArg Host.Outcome.next (State.waitExpiryOp_of_due waits due), rfl, ?_⟩
  split
  · next detaching => exact State.endWaitReported_silent w.lock .expired .expired detaching
  · next staying => exact State.endWaitReported_notified w.lock .expired .expired staying

/-! ### Steps that are not due (log 4) -/

section
variable {s : State}

theorem State.waitStepOp_of_not_due
    (elsewhere : ∀ j sl, s.activeJob ≠ some { job := j, position := .step sl .wait }) : s.waitStepOp = s := by
  unfold State.waitStepOp
  split
  · next j sl here => exact absurd here (elsewhere j sl)
  · rfl

theorem State.holdStepOp_of_not_due
    (elsewhere : ∀ j sl, s.activeJob ≠ some { job := j, position := .step sl .hold }) : s.holdStepOp = s := by
  unfold State.holdStepOp
  split
  · next j sl here => exact absurd here (elsewhere j sl)
  · rfl

theorem State.flushStepOp_of_not_due
    (elsewhere : ∀ j sl, s.activeJob ≠ some { job := j, position := .step sl .flush }) : s.flushStepOp = s := by
  unfold State.flushStepOp
  split
  · next j sl here => exact absurd here (elsewhere j sl)
  · rfl

theorem State.clientJobFinalOp_of_not_due
    (other : ∀ j, s.activeJob = some { job := j, position := .final } → j.scope = .agent) :
    s.clientJobFinalOp = s := by
  unfold State.clientJobFinalOp
  split
  · next j here => exact if_neg (by simp [other j here])
  · rfl

theorem State.agentJobFinalOp_of_not_due
    (other : ∀ j, s.activeJob = some { job := j, position := .final } → j.scope = .client) :
    s.agentJobFinalOp = s := by
  unfold State.agentJobFinalOp
  split
  · next j here => exact if_neg (by simp [other j here])
  · rfl

end

/-- Settles O44: each happening leaves the state where it is not due. -/
theorem happeningsThatAreNotDueChangeNothing : Obligations.HappeningsThatAreNotDueChangeNothing := fun _ =>
  ⟨fun _ _ notDue => congrArg Host.Outcome.next (State.holdExpiryOp_of_not_due notDue),
    fun _ notDue => congrArg Host.Outcome.next (State.waitExpiryOp_of_not_due notDue),
    fun idle => congrArg Host.Outcome.next (State.sweepStepOp_of_idle (by simp [idle])),
    fun elsewhere => congrArg Host.Outcome.next (State.waitStepOp_of_not_due elsewhere),
    fun elsewhere => congrArg Host.Outcome.next (State.holdStepOp_of_not_due elsewhere),
    fun elsewhere => congrArg Host.Outcome.next (State.flushStepOp_of_not_due elsewhere),
    fun other => congrArg Host.Outcome.next (State.clientJobFinalOp_of_not_due other),
    fun other => congrArg Host.Outcome.next (State.agentJobFinalOp_of_not_due other)⟩

end Sys2Proof.Machine
end

section
/-! The notice slots (R97): the law of an agent's notices and waits, and what keeps it. The slots an agent needs are
counted from its queue and the waits of its clients, so that a wait that turns into a notice needs no more. -/

namespace Sys2Proof.Machine

/-! ### The law of one agent -/

/-- The laws of the threshold, the flags and their records (R105, R138, R101). -/
structure AgentNotices.Lawful (r : AgentNotices) : Prop where
  threshold : 1 ≤ r.threshold.val
  fault : r.fault = r.faultRecord.isSome
  multi : r.multi = true → r.fault = true
  lost : r.lost = (r.lostWarned || r.lostRevoked)

/-- The notices of an agent and the waits of its clients that may still become notices. -/
def State.slotsNeeded (s : State) (a : AgentId) : Nat :=
  (s.nu a).queue.length + s.waitCount a

/-- The law of an agent's notices: there is a slot for each notice and each wait (R97), and the flags are lawful. -/
structure State.AgentLawful (s : State) (a : AgentId) : Prop where
  slots : s.slotsNeeded a ≤ Config.noticeDepth
  flags : (s.nu a).Lawful

/-- The reserved slots of an agent are its waits (R96). -/
theorem State.Agreed.reserved {s : State} (agreed : s.Agreed) (a : AgentId) : (s.nu a).reserved = s.waitCount a := by
  obtain ⟨-, -, -, -, reserved⟩ := agreed.waits
  exact reserved a

theorem State.Agreed.slotsTaken {s : State} (agreed : s.Agreed) (a : AgentId) : s.slotsTaken a = s.slotsNeeded a := by
  rw [State.slotsTaken, agreed.reserved, State.slotsNeeded]

theorem State.Agreed.noticesSound_iff {s : State} (agreed : s.Agreed) : s.NoticesSound ↔ ∀ a, s.AgentLawful a := by
  refine forall_congr' fun a => ?_
  rw [agreed.slotsTaken]
  exact ⟨fun ⟨slots, threshold, fault, multi, lost⟩ => ⟨slots, threshold, fault, multi, lost⟩,
    fun ⟨slots, threshold, fault, multi, lost⟩ => ⟨slots, threshold, fault, multi, lost⟩⟩

/-- A WAITING client has a wait (R20), so that these are no more than the waits. -/
theorem State.Agreed.waiting_le_waitCount {s : State} (agreed : s.Agreed) (a : AgentId) :
    (allSlots.countP fun sl => (s.client (clientOf a sl)).state == .waiting) ≤ s.waitCount a :=
  List.countP_mono_left fun sl _ waiting => (agreed.client (clientOf a sl)).waiting (beq_iff_eq.1 waiting)

/-! ### Changes of an agent's notice state -/

section
variable {r : AgentNotices}

theorem AgentNotices.Lawful.of_queue (h : r.Lawful) (queue : List Notice) (reserved : Nat) :
    AgentNotices.Lawful { r with queue := queue, reserved := reserved } :=
  ⟨h.threshold, h.fault, h.multi, h.lost⟩

/-- A fault is captured, or sets MULTI (R138). -/
theorem AgentNotices.Lawful.of_fault (h : r.Lawful) (record : FaultRecord) :
    AgentNotices.Lawful
      (if r.fault = true then { r with multi := true }
      else { r with fault := true, faultRecord := some record }) := by
  split
  · next full => exact ⟨h.threshold, h.fault, fun _ => full, h.lost⟩
  · exact ⟨h.threshold, rfl, fun _ => rfl, h.lost⟩

/-- A notice is lost, of the one kind or the other (R101). -/
theorem AgentNotices.Lawful.of_lost (h : r.Lawful) (revoked : Bool) :
    AgentNotices.Lawful
      { r with
        lost := true
        lostWarned := r.lostWarned || !revoked
        lostRevoked := r.lostRevoked || revoked } :=
  ⟨h.threshold, h.fault, h.multi, by cases revoked <;> simp⟩

/-- A write of AFLAGS clears a flag together with its record (R102, R139). -/
theorem AgentNotices.Lawful.writeAflags (h : r.Lawful) (w : Word) : (r.writeAflags w).Lawful := by
  have cleared : AgentNotices.Lawful (if w.getLsbD 0 then r.clearLost else r) := by
    split
    · exact ⟨h.threshold, h.fault, h.multi, rfl⟩
    · exact h
  unfold AgentNotices.writeAflags
  generalize (if w.getLsbD 0 then r.clearLost else r) = q at cleared
  dsimp only
  split
  · exact ⟨cleared.threshold, rfl, nofun, cleared.lost⟩
  · split
    · exact ⟨cleared.threshold, cleared.fault, nofun, cleared.lost⟩
    · exact cleared

/-- The threshold a write of NQCFG stores is at least 1 (R105). -/
theorem thresholdOf_pos (w : Word) : 1 ≤ (thresholdOf w).val := by
  unfold thresholdOf
  split
  · exact Nat.le_refl 1
  · rw [clamp_val]
    split <;> omega

theorem AgentNotices.writeAflags_queue (w : Word) : (r.writeAflags w).queue = r.queue := by
  unfold AgentNotices.writeAflags
  split_ifs <;> rfl

end

/-! ### The relation and how it composes -/

/-- Every agent that is lawful in `s` is so in `t`. -/
structure State.NoticesKept (t s : State) : Prop where
  agent : ∀ a, s.AgentLawful a → t.AgentLawful a

section
variable {r s t : State}

theorem State.NoticesKept.refl (s : State) : s.NoticesKept s := ⟨fun _ h => h⟩

theorem State.NoticesKept.trans (h₂ : t.NoticesKept s) (h₁ : s.NoticesKept r) : t.NoticesKept r :=
  ⟨fun a h => h₂.agent a (h₁.agent a h)⟩

theorem State.NoticesKept.foldl {α : Type} {f : State → α → State} (h : ∀ s x, (f s x).NoticesKept s) (l : List α)
    (s : State) : (l.foldl f s).NoticesKept s := by
  induction l generalizing s with
  | nil => exact .refl s
  | cons x l ih => exact (ih _).trans (h s x)

theorem State.waitCount_le (wait : ∀ c, (t.client c).wait.isSome = true → (s.client c).wait.isSome = true)
    (a : AgentId) : t.waitCount a ≤ s.waitCount a :=
  List.countP_mono_left fun sl _ => wait (clientOf a sl)

/-- No wait begins and no queue grows. -/
theorem State.NoticesKept.of_le (wait : ∀ c, (t.client c).wait.isSome = true → (s.client c).wait.isSome = true)
    (queue : ∀ a, (t.nu a).queue.length ≤ (s.nu a).queue.length)
    (flags : ∀ a, (s.nu a).Lawful → (t.nu a).Lawful) : t.NoticesKept s :=
  ⟨fun a h => ⟨(Nat.add_le_add (queue a) (State.waitCount_le wait a)).trans h.slots, flags a h.flags⟩⟩

/-- The clients change, and no wait begins. -/
theorem State.NoticesKept.of_clients (notices : t.notices = s.notices)
    (wait : ∀ c, (t.client c).wait.isSome = true → (s.client c).wait.isSome = true) : t.NoticesKept s := by
  have nu : ∀ a, t.nu a = s.nu a := fun a => by rw [State.nu, notices, State.nu]
  exact .of_le wait (fun a => by rw [nu]) fun a h => by rwa [nu]

/-- Neither the clients nor the notice states change. -/
theorem State.NoticesKept.of_eq (clients : t.clients = s.clients) (notices : t.notices = s.notices) :
    t.NoticesKept s :=
  .of_clients notices fun c h => by rwa [State.client, clients] at h

/-- Such a change may follow. -/
theorem State.NoticesKept.congr (h : s.NoticesKept r) (clients : t.clients = s.clients)
    (notices : t.notices = s.notices) : t.NoticesKept r :=
  .trans (.of_eq clients notices) h

/-- One client context changes, and no wait begins. -/
theorem State.setClient_noticesKept {c : ClientId} {x : Client}
    (wait : x.wait.isSome = true → (s.client c).wait.isSome = true) : (s.setClient c x).NoticesKept s := by
  refine .of_clients rfl fun d => ?_
  rw [State.setClient_client]
  split
  · next hd => exact hd ▸ wait
  · exact id

/-- One agent's notice state changes, and its queue does not grow. -/
theorem State.NuChanged.noticesKept {a : AgentId} {x : AgentNotices} (h : t.NuChanged s a x)
    (queue : x.queue.length ≤ (s.nu a).queue.length) (flags : (s.nu a).Lawful → x.Lawful) : t.NoticesKept s := by
  obtain ⟨nu, others, frame⟩ := h
  refine .of_le (fun c h => by rwa [frame] at h) (fun b => ?_) fun b => ?_ <;> by_cases hb : b = a
  · rwa [hb, nu]
  · rw [others b hb]
  · rwa [hb, nu]
  · rw [others b hb]
    exact id

theorem State.setNu_nuChanged (s : State) (a : AgentId) (x : AgentNotices) : (s.setNu a x).NuChanged s a x :=
  ⟨by simp, fun b hb => by simp [hb], rfl⟩

/-- A notice is appended to the queue of an agent that has a slot free for it (R101, R107). -/
theorem State.NuChanged.noticesKept_of_append {a : AgentId} {n : Notice}
    (h : t.NuChanged s a { s.nu a with queue := (s.nu a).queue ++ [n] }) (reserved : (s.nu a).reserved = s.waitCount a)
    (room : (s.nu a).queue.length + (s.nu a).reserved < 16) : t.NoticesKept s := by
  obtain ⟨nu, others, frame⟩ := h
  have count : ∀ b, t.waitCount b = s.waitCount b := fun b => by rw [frame]; rfl
  refine ⟨fun b lawful => ?_⟩
  by_cases hb : b = a
  · subst hb
    refine ⟨?_, by rw [nu]; exact lawful.flags.of_queue _ _⟩
    rw [reserved] at room
    rw [State.slotsNeeded, nu, count, Config.noticeDepth, List.length_append, List.length_singleton]
    omega
  · refine ⟨?_, by rw [others b hb]; exact lawful.flags⟩
    rw [State.slotsNeeded, others b hb, count]
    exact lawful.slots

end

/-! ### Answers and notices about holds -/

section
variable {s u : State}

theorem State.answer_noticesKept (s : State) (o : Origin) (r : Result) (n : LockId) (g : BitVec 16) :
    (s.answer o r n g).NoticesKept s := by
  obtain ⟨-, -, ⟨others, own⟩, -, -⟩ := s.answer_answered o r n g
  refine .of_le (fun c h => ?_) (fun a => ?_) fun a lawful => ?_
  · rw [State.answer_client] at h
    split at h <;> exact h
  · by_cases ha : a = o.agent
    · rw [ha, own]
      split_ifs <;> exact Nat.le_refl _
    · rw [others a ha]
  · by_cases ha : a = o.agent
    · subst ha
      rw [own]
      split
      · exact lawful.of_fault _
      · exact lawful
    · rw [others a ha]
      exact lawful

/-- A WARNED or REVOKED notice is discarded, appended where a slot is free, or lost (R88, R101). -/
theorem State.NoticePassed.noticesKept {x : Hold} {revoked : Bool} (h : u.NoticePassed s x revoked)
    (reserved : ∀ a, (s.nu a).reserved = s.waitCount a) : u.NoticesKept s := by
  obtain ⟨others, own, frame⟩ := h
  have changed := fun r (nu : u.nu (agentOf x.client) = r) =>
    show u.NuChanged s (agentOf x.client) r from ⟨nu, others, frame⟩
  split at own
  · exact (changed _ own).noticesKept (Nat.le_refl _) id
  · split at own
    · next room => exact (changed _ own).noticesKept_of_append (reserved _) room
    · exact (changed _ own).noticesKept (Nat.le_refl _) fun lawful => lawful.of_lost revoked

end

/-! ### Waits that begin and end -/

section
variable {s u : State} {c : ClientId} {n : LockId}

/-- A wait record is a wait. -/
theorem State.isSome_of_wait {w : WaitRecord} (h : (s.client c).wait = some w) :
    (s.client c).wait.isSome = true := by
  rw [h]
  rfl

theorem State.WaitsOn.isSome (h : s.WaitsOn c n) : (s.client c).wait.isSome = true := by
  obtain ⟨w, hw, -⟩ := (s.waitsOn_iff c n).1 h
  exact State.isSome_of_wait hw

/-- The slot of a wait that ends is free again, or holds its notice (R99, R100). -/
theorem State.WaitEnded.noticesKept {st : ClientState} {e : WaitEnd} {notice : Option Notice}
    (h : u.WaitEnded s c n st e notice) (waits : (s.client c).wait.isSome = true) : u.NoticesKept s := by
  have ended := h.wait
  obtain ⟨-, others, -, -, -, nu, nus, -⟩ := h
  refine ⟨fun a lawful => ?_⟩
  by_cases ha : a = agentOf c
  · subst ha
    refine ⟨?_, by rw [nu]; exact lawful.flags.of_queue _ _⟩
    have count := State.waitCount_succ ended waits fun d hd => (others d hd).symm
    have length : notice.toList.length ≤ 1 := by cases notice <;> simp
    have slots := lawful.slots
    rw [State.slotsNeeded] at slots ⊢
    rw [nu, List.length_append]
    omega
  · refine ⟨?_, by rw [nus a ha]; exact lawful.flags⟩
    rw [State.slotsNeeded, nus a ha, State.waitCount_of_ne ha others]
    exact lawful.slots

/-- A WAIT takes a slot that is free for it (R41, R98). -/
theorem State.Agreed.enqueue_noticesKept (agreed : s.Agreed) (m : Mode) (p : Priority)
    (idle : (s.client c).wait = none) (room : s.slotFree (agentOf c) = true) : (s.enqueue c n m p).NoticesKept s := by
  have others := fun d (hd : d ≠ c) => s.enqueue_client_of_ne c n m p hd
  have queue : ∀ a, ((s.enqueue c n m p).nu a).queue = (s.nu a).queue := fun a => by
    by_cases ha : a = agentOf c <;> simp [State.enqueue, ha]
  have flags : ∀ a, (s.nu a).Lawful → ((s.enqueue c n m p).nu a).Lawful := fun a lawful => by
    by_cases ha : a = agentOf c
    · simpa [State.enqueue, ha] using (ha ▸ lawful).of_queue _ _
    · simpa [State.enqueue, ha] using lawful
  refine ⟨fun a lawful => ?_⟩
  refine ⟨?_, flags a lawful.flags⟩
  rw [State.slotsNeeded, queue]
  by_cases ha : a = agentOf c
  · subst ha
    have free := of_decide_eq_true room
    rw [agreed.slotsTaken, State.slotsNeeded] at free
    rw [State.waitCount_succ idle (by rw [State.enqueue_client]; rfl) others]
    omega
  · rw [State.waitCount_of_ne ha others]
    exact lawful.slots

/-! ### Grants and removals -/

theorem State.createHold_noticesKept (m : Mode) : (s.createHold c n m).NoticesKept s := by
  refine .of_clients rfl fun d => ?_
  rw [State.createHold_client]
  split
  · next hd => exact hd ▸ id
  · exact id

/-- A grant turns a wait into its notice (R46). -/
theorem State.grantWaiter_noticesKept (s : State) (n : LockId) (c : ClientId) :
    (s.grantWaiter n c).NoticesKept s := by
  cases hw : (s.client c).wait with
  | none =>
    rw [State.grantWaiter_of_no_wait hw]
    exact .refl s
  | some w =>
    obtain ⟨notice, grant⟩ := State.grantWaiter_eq_createHold (n := n) hw
    rw [grant]
    exact (State.createHold_noticesKept w.mode).trans
      ((s.endWaitGranted_waitEnded c n notice).noticesKept (State.isSome_of_wait hw))

theorem State.grantEval_noticesKept (s : State) (n : LockId) : (s.grantEval n).NoticesKept s :=
  State.NoticesKept.foldl (fun s c => s.grantWaiter_noticesKept n c) _ s

theorem State.removeHold_noticesKept (s : State) (x : Hold) (alone : LockState) :
    (s.removeHold x alone).NoticesKept s :=
  .of_eq rfl rfl

theorem State.waitCount_of_wait (wait : ∀ d, (u.client d).wait = (s.client d).wait) (a : AgentId) :
    u.waitCount a = s.waitCount a := by
  simp only [State.waitCount, wait]

/-- A revoke leaves the waits as they are until its notice is passed (R89). -/
theorem State.Agreed.revoke_noticesKept (agreed : s.Agreed) (x : Hold) : (s.revoke x).NoticesKept s := by
  have wait : ∀ d, (((s.removeHold x .orphaned).setRevoked x.client x.lock true).client d).wait =
      (s.client d).wait := fun d => by
    rw [State.setRevoked_eq, State.setClient_client]
    split
    · next hd => rw [hd]; rfl
    · rfl
  have listed : ((s.removeHold x .orphaned).setRevoked x.client x.lock true).NoticesKept s :=
    .of_clients rfl fun d h => wait d ▸ h
  have reserved : ∀ a, (((s.removeHold x .orphaned).setRevoked x.client x.lock true).nu a).reserved =
      ((s.removeHold x .orphaned).setRevoked x.client x.lock true).waitCount a := fun a =>
    (agreed.reserved a).trans (State.waitCount_of_wait wait a).symm
  have passed := (State.passUnreserved_noticePassed _ x true).noticesKept reserved
  exact (State.grantEval_noticesKept _ x.lock).trans (passed.trans listed)

/-- Each wait that a flush ends turns into its notice, or is given up (R13). -/
theorem State.flushWaits_noticesKept {cs : List ClientId} (nd : cs.Nodup)
    (waits : ∀ c ∈ cs, (s.client c).wait.isSome = true) : (s.flushWaits n cs).NoticesKept s := by
  induction cs generalizing s with
  | nil => exact .refl s
  | cons c cs ih =>
    obtain ⟨hc, nd⟩ := List.nodup_cons.1 nd
    have ended := s.endWaitReported_waitEnded c n .flushed .dead
    refine (ih nd fun d hd => ?_).trans (ended.noticesKept (waits c List.mem_cons_self))
    obtain ⟨-, others, -⟩ := ended
    rw [others d fun e => hc (e ▸ hd)]
    exact waits d (List.mem_cons_of_mem c hd)

theorem State.WaitsSound.makeDead_noticesKept (sound : s.WaitsSound) (c : ClientId) (n : LockId) :
    (s.makeDead c n).NoticesKept s := by
  have died : ∀ l : LockRecord, l.queue = (s.lock n).queue →
      (((s.freeHold c n).setLock n l).deadFlush n).NoticesKept s := fun l queue => by
    rw [State.deadFlush_eq, State.setLock_lock, if_pos rfl, queue]
    refine State.NoticesKept.trans (State.flushWaits_noticesKept (sound.nodup n) fun d hd => ?_) (.of_eq rfl rfl)
    exact (sound.waitsOn_of_mem hd).isSome
  exact (died { s.lock n with state := .dead, cleanPending := false } rfl).congr rfl rfl

end

end Sys2Proof.Machine
end

section
/-! What the commands do to the notice slots: from a state whose reserved slots are its waits, every command keeps the
law of every agent's notices (R97, R101, R105, R138). -/

namespace Sys2Proof.Machine

/-! ### ACQUIRE, RELEASE, MARK_CLEAN, CANCEL, RENEW, MAIL -/

/-- A WAIT is queued only where its agent has a slot free (R41). -/
theorem State.slotFree_of_enqueue {s : State} {a : AgentId} {n : LockId} {m : Mode} {k : Kind} {p : Priority}
    (h : s.grantDecision a n m k p = .enqueue) : s.slotFree a = true := by
  have queued : s.queueDecision a n k = .enqueue → s.slotFree a = true := fun h => by
    unfold State.queueDecision at h
    obtain ⟨-, h⟩ := check_passed h (by simp)
    obtain ⟨-, h⟩ := check_passed h (by simp)
    simpa using (check_passed h (by simp)).1
  unfold State.grantDecision at h
  split_ifs at h <;> exact queued h

section
variable {s : State}

theorem State.Agreed.acquireOp_noticesKept (agreed : s.Agreed) (o : Origin) (n : LockId) (m : Mode) (k : Kind)
    (p : Priority) : (s.acquireOp o n m k p).NoticesKept s := by
  unfold State.acquireOp
  split
  · exact s.answer_noticesKept ..
  · exact (State.answer_noticesKept ..).trans (State.createHold_noticesKept m)
  · next h =>
    obtain ⟨ready, -⟩ := State.acquireDecision_client h (by simp)
    obtain ⟨-, queued⟩ := State.acquireDecision_of_passed h (by simp)
    have room : s.slotFree (agentOf o.client) = true := by
      rw [o.agentOf_client]
      exact State.slotFree_of_enqueue queued
    exact (State.grantEval_noticesKept _ n).trans ((State.answer_noticesKept ..).trans
      (agreed.enqueue_noticesKept m p ((agreed.client o.client).ready ready) room))

theorem State.Agreed.releaseOp_noticesKept (agreed : s.Agreed) (o : Origin) (n : LockId) :
    (s.releaseOp o n).NoticesKept s := by
  unfold State.releaseOp
  split
  · exact s.answer_noticesKept ..
  · split
    · split
      · exact (State.answer_noticesKept ..).trans (State.setClient_noticesKept id)
      · exact s.answer_noticesKept ..
    · split
      · exact (State.answer_noticesKept ..).trans (agreed.waits.makeDead_noticesKept o.client n)
      · exact (State.answer_noticesKept ..).trans
          ((State.grantEval_noticesKept _ n).trans (s.removeHold_noticesKept _ .free))

theorem State.markCleanOp_noticesKept (s : State) (o : Origin) (n : LockId) : (s.markCleanOp o n).NoticesKept s := by
  unfold State.markCleanOp
  split
  · exact s.answer_noticesKept ..
  · split
    · split <;> exact s.answer_noticesKept ..
    · split
      · exact (State.answer_noticesKept ..).trans (.of_eq rfl rfl)
      · exact s.answer_noticesKept ..

theorem State.cancelOp_noticesKept (s : State) (o : Origin) : (s.cancelOp o).NoticesKept s := by
  unfold State.cancelOp
  split
  · exact s.answer_noticesKept ..
  · exact s.answer_noticesKept ..
  · split
    · exact s.answer_noticesKept ..
    · next w hw =>
      exact (State.grantEval_noticesKept _ w.lock).trans ((State.answer_noticesKept ..).trans
        ((s.cancelWait_ready_waitEnded o.client w.lock).noticesKept (State.isSome_of_wait hw)))
  · split <;> exact s.answer_noticesKept ..

theorem State.renewOp_noticesKept (s : State) (o : Origin) (n : LockId) : (s.renewOp o n).NoticesKept s := by
  unfold State.renewOp
  split
  · exact s.answer_noticesKept ..
  · split
    · split <;> exact s.answer_noticesKept ..
    · split
      · exact s.answer_noticesKept ..
      · exact (State.answer_noticesKept ..).trans (.of_eq rfl rfl)

/-- The notice of a MAIL takes a slot that is free for it (R107). -/
theorem State.Agreed.mailOp_noticesKept (agreed : s.Agreed) (o : Origin) (target : AgentId) (payload : BitVec 16) :
    (s.mailOp o target payload).NoticesKept s := by
  unfold State.mailOp
  split_ifs with _ _ _ full
  case neg =>
    have free : s.slotFree target = true := by simpa using full
    exact (State.answer_noticesKept ..).trans
      ((s.setNu_nuChanged target _).noticesKept_of_append (agreed.reserved target) (of_decide_eq_true free))
  all_goals exact s.answer_noticesKept ..

/-! ### Expiries (R84, R87) -/

theorem State.Agreed.warnHold_noticesKept (agreed : s.Agreed) (x : Hold) (countdown : Countdown) (phase : Phase) :
    (s.warnHold x countdown phase).NoticesKept s :=
  ((s.passUnreserved_noticePassed x false).noticesKept agreed.reserved).congr rfl rfl

theorem State.Agreed.expireHold_noticesKept (agreed : s.Agreed) (x : Hold) : (s.expireHold x).NoticesKept s := by
  unfold State.expireHold
  split
  · exact agreed.revoke_noticesKept x
  · split
    · exact agreed.warnHold_noticesKept ..
    · exact agreed.revoke_noticesKept x
    · split
      · exact agreed.revoke_noticesKept x
      · exact agreed.warnHold_noticesKept ..

theorem State.Agreed.holdExpiryOp_noticesKept (agreed : s.Agreed) (c : ClientId) (n : LockId) :
    (s.holdExpiryOp c n).NoticesKept s := by
  unfold State.holdExpiryOp
  split
  · exact .refl s
  · split
    · exact agreed.expireHold_noticesKept _
    · exact .refl s

theorem State.waitExpiryOp_noticesKept (s : State) (c : ClientId) : (s.waitExpiryOp c).NoticesKept s := by
  unfold State.waitExpiryOp
  split
  · exact .refl s
  · next w hw =>
    split
    · exact (State.grantEval_noticesKept _ w.lock).trans
        ((s.endWaitReported_waitEnded c w.lock .expired .expired).noticesKept (State.isSome_of_wait hw))
    · exact .refl s

/-! ### Attaching, detach requests and the steps of the ACTIVE job (R113 to R123) -/

theorem State.Attached.noticesKept {t : State} {a : AgentId} (h : t.Attached s a) : t.NoticesKept s := by
  obtain ⟨-, -, client, frame⟩ := h
  refine .of_clients (by rw [frame]) fun c => ?_
  rw [client]
  split <;> exact id

theorem State.detachRequest_noticesKept (s : State) (a : AgentId) (named : SlotSet) (scope : Scope) :
    (s.detachRequest a named scope).NoticesKept s := by
  obtain ⟨set, u, -, made, placed, -⟩ := s.detachRequest_requested a named scope
  have client := made.client
  obtain ⟨-, -, -, -, frame⟩ := made
  have detaching : u.NoticesKept s := .of_clients (by rw [frame]) fun c => by
    rcases client c with e | e <;> rw [e] <;> exact id
  have evaluated := State.NoticesKept.foldl State.grantEval_noticesKept (s.waitLocks a set) u
  exact (evaluated.trans detaching).congr (by rw [placed]) (by rw [placed])

theorem State.assertLine_noticesKept (s : State) (a : AgentId) : (s.assertLine a).NoticesKept s := by
  have level : (s.setLevel a true).NoticesKept s := .of_eq rfl rfl
  unfold State.assertLine
  split
  · exact .refl s
  · dsimp only
    split
    · exact (State.detachRequest_noticesKept _ a everySlot .agent).trans level
    · exact level

theorem State.deassertLine_noticesKept (s : State) (a : AgentId) : (s.deassertLine a).NoticesKept s := by
  have level : (s.setLevel a false).NoticesKept s := .of_eq rfl rfl
  unfold State.deassertLine
  split
  · exact .refl s
  · dsimp only
    split
    · exact (State.attachAgent_attached _ a).noticesKept.trans level
    · exact level

theorem State.waitStepOp_noticesKept (s : State) : s.waitStepOp.NoticesKept s := by
  unfold State.waitStepOp
  split
  · next j sl _ =>
    have reclaimed : (s.reclaimWait (clientOf j.agent sl)).NoticesKept s := by
      unfold State.reclaimWait
      split
      · exact .refl s
      · next w hw =>
        exact (State.grantEval_noticesKept _ w.lock).trans
          ((s.cancelWait_waitEnded _ w.lock).noticesKept (State.isSome_of_wait hw))
    exact reclaimed.congr rfl rfl
  · exact .refl s

theorem State.holdStepOp_noticesKept (s : State) : s.holdStepOp.NoticesKept s := by
  unfold State.holdStepOp
  split
  · split
    · exact .of_eq rfl rfl
    · next x _ => exact (State.grantEval_noticesKept _ x.lock).trans (s.removeHold_noticesKept x .orphaned)
  · exact .refl s

/-- A client flush only removes notices (R109). -/
theorem State.flushStepOp_noticesKept (s : State) : s.flushStepOp.NoticesKept s := by
  unfold State.flushStepOp
  split
  · next j sl _ =>
    have flushed : (s.flushClient j.agent sl).NoticesKept s :=
      (s.setNu_nuChanged j.agent _).noticesKept (List.length_filter_le _ _) fun h => h.of_queue _ _
    exact flushed.congr rfl rfl
  · exact .refl s

theorem State.endJob_noticesKept (s : State) : s.endJob.NoticesKept s := by
  obtain ⟨frame, -⟩ := s.endJob_jobEnded
  exact .of_eq (by rw [frame]) (by rw [frame])

theorem State.clientJobFinalOp_noticesKept (s : State) : s.clientJobFinalOp.NoticesKept s := by
  have ended : ∀ j, (s.endClientJob j).NoticesKept s := fun j => by
    unfold State.endClientJob
    split
    · refine State.NoticesKept.foldl (fun u sl => ?_) _ s
      rw [State.returnClient_eq]
      exact State.setClient_noticesKept id
    · exact .of_eq rfl rfl
    · exact .refl s
  unfold State.clientJobFinalOp
  split
  · split
    · exact (State.endJob_noticesKept _).trans (ended _)
    · exact .refl s
  · exact .refl s

/-- An agent flush empties the queue (R110). -/
theorem State.endAgentJob_noticesKept (s : State) (a : AgentId) : (s.endAgentJob a).NoticesKept s := by
  have off : (allSlots.foldl (fun s sl => s.turnOffClient (clientOf a sl)) s).NoticesKept s :=
    State.NoticesKept.foldl (fun _ _ => State.setClient_noticesKept (x := Client.turnedOff _) id) _ s
  have detached : ∀ u : State, ((u.flushAgent a).setAttach a .detached).NoticesKept u := fun u =>
    .congr ((u.setNu_nuChanged a _).noticesKept (Nat.zero_le _) fun h => h.of_queue [] _) rfl rfl
  unfold State.endAgentJob
  dsimp only
  split
  · exact (State.attachAgent_attached _ a).noticesKept.trans ((detached _).trans off)
  · exact (detached _).trans off

theorem State.agentJobFinalOp_noticesKept (s : State) : s.agentJobFinalOp.NoticesKept s := by
  unfold State.agentJobFinalOp
  split
  · split
    · exact (State.endJob_noticesKept _).trans (s.endAgentJob_noticesKept _)
    · exact .refl s
  · exact .refl s

/-! ### The sweep (R75) and the resets (R1, R14) -/

theorem State.sweepStepOp_noticesKept (s : State) : s.sweepStepOp.NoticesKept s := by
  have swept : (s.sweepLock s.su.sweep.position).NoticesKept s := by
    unfold State.sweepLock
    split
    · exact .refl s
    · exact s.grantEval_noticesKept _
  unfold State.sweepStepOp
  split
  · dsimp only
    split <;> exact swept.congr rfl rfl
  · exact .refl s

theorem State.softReset_noticesKept (s : State) : s.softReset.NoticesKept s := by
  have nu : ∀ a, s.softReset.nu a = (s.nu a).softReset := fun a => by simp [State.softReset]
  refine .of_le (fun c h => ?_) (fun a => ?_) fun a lawful => ?_
  · rw [State.softReset_wait] at h
    cases h
  · rw [nu]
    exact Nat.zero_le _
  · rw [nu]
    exact ⟨lawful.threshold, rfl, nofun, rfl⟩

theorem State.powerOn_noticesKept (s : State) (levels : BitVec 8) : (s.powerOn levels).NoticesKept s := by
  refine .of_le (fun c h => ?_) (fun a => ?_) fun a _ => ?_
  · rw [State.powerOn_client] at h
    cases h
  · rw [State.powerOn_nu]
    exact Nat.zero_le _
  · rw [State.powerOn_nu]
    exact ⟨Nat.le_refl 1, rfl, nofun, rfl⟩

/-! ### The registers of the NU -/

/-- The threshold stored is at least 1, and no other register write touches what the law reads (R105). -/
theorem State.writePlain_noticesKept (s : State) (r : PlainReg) (w : Word) : (s.writePlain r w).NoticesKept s := by
  cases r
  case waitlim => exact State.setClient_noticesKept id
  case nqcfg a =>
    exact (s.setNu_nuChanged a _).noticesKept (Nat.le_refl _) fun h => ⟨thresholdOf_pos w, h.fault, h.multi, h.lost⟩
  case aen a =>
    exact (s.setNu_nuChanged a _).noticesKept (Nat.le_refl _) fun h => ⟨h.threshold, h.fault, h.multi, h.lost⟩
  all_goals exact .of_eq rfl rfl

theorem State.writeAflags_noticesKept (s : State) (a : AgentId) (w : Word) : (s.writeAflags a w).NoticesKept s :=
  (s.setNu_nuChanged a _).noticesKept (Nat.le_of_eq (congrArg List.length (AgentNotices.writeAflags_queue w)))
    fun h => h.writeAflags w

theorem State.popNotice_noticesKept (s : State) (a : AgentId) : (s.popNotice a).NoticesKept s := by
  have read : (s.setBusData (encodeHead (s.nu a).queue.head?)).NoticesKept s := .of_eq rfl rfl
  refine ((State.setNu_nuChanged _ a _).noticesKept ?_ fun h => h.of_queue _ _).trans read
  simp

/-! ### Every command and every step -/

theorem exec_accessMisuse_noticesKept (access : BusAccess) (s : State) :
    ∃ t, exec (.accessMisuse access) s = .next t ∧ t.NoticesKept s := by
  show ∃ t, execAccessMisuse access s = .next t ∧ t.NoticesKept s
  unfold execAccessMisuse
  cases access.write <;> exact ⟨_, rfl, .of_eq rfl rfl⟩

theorem exec_detachClient_noticesKept (number : Fin 64) (s : State) :
    ∃ t, exec (.detachClient number) s = .next t ∧ t.NoticesKept s := by
  refine ⟨_, rfl, ?_⟩
  split
  · exact (s.detachRequest_noticesKept (agentOf (clientOfNumber number)) (onlySlot (slotOf (clientOfNumber number)))
      .client).congr rfl rfl
  · exact .of_eq rfl rfl

theorem exec_detachAgent_noticesKept (number : Fin 64) (s : State) :
    ∃ t, exec (.detachAgent number) s = .next t ∧ t.NoticesKept s := by
  refine ⟨_, rfl, ?_⟩
  split
  · exact (s.detachRequest_noticesKept (agentOfNumber number) everySlot .agent).congr rfl rfl
  · exact .of_eq rfl rfl
  · exact .of_eq rfl rfl

theorem exec_attach_noticesKept (number : Fin 64) (s : State) :
    ∃ t, exec (.attach number) s = .next t ∧ t.NoticesKept s := by
  refine ⟨_, rfl, ?_⟩
  split
  · exact .of_eq rfl rfl
  · exact .of_eq rfl rfl
  · split
    · exact .of_eq rfl rfl
    · exact (s.attachAgent_attached (agentOfNumber number)).noticesKept.congr rfl rfl

/-- A tick starts no wait (R82). -/
theorem State.tick_noticesKept (s : State) : s.tick.NoticesKept s := by
  refine .of_clients (by simp [State.tick]) fun c h => ?_
  rw [State.tick, State.mapClients_client] at h
  simpa [Client.tick] using h

theorem exec_tick_noticesKept (s : State) : ∃ t, exec .tick s = .next t ∧ t.NoticesKept s := by
  refine ⟨_, exec_tick s, ?_⟩
  split
  · exact s.tick_noticesKept
  · exact .refl s

/-- Every command keeps the law of every agent's notices. -/
theorem exec_noticesKept (i : Instr) (agreed : s.Agreed) : ∃ t, exec i s = .next t ∧ t.NoticesKept s := by
  cases i
  case acquire => exact ⟨_, rfl, agreed.acquireOp_noticesKept ..⟩
  case release => exact ⟨_, rfl, agreed.releaseOp_noticesKept ..⟩
  case cancel => exact ⟨_, rfl, s.cancelOp_noticesKept _⟩
  case renew => exact ⟨_, rfl, s.renewOp_noticesKept ..⟩
  case markClean => exact ⟨_, rfl, s.markCleanOp_noticesKept ..⟩
  case mail => exact ⟨_, rfl, agreed.mailOp_noticesKept ..⟩
  case badOpcode => exact ⟨_, rfl, s.answer_noticesKept ..⟩
  case claimRead a n =>
    exact ⟨_, rfl, (agreed.acquireOp_noticesKept (Origin.claimRead a (s.window a) n) n .exclusive .tryOnce
      (s.window a).priority).congr rfl rfl⟩
  case claimWrite => exact ⟨_, rfl, agreed.releaseOp_noticesKept ..⟩
  case noticePop => exact ⟨_, rfl, s.popNotice_noticesKept _⟩
  case clearLost => exact ⟨_, rfl, s.writeAflags_noticesKept ..⟩
  case clearFault => exact ⟨_, rfl, s.writeAflags_noticesKept ..⟩
  case clearMulti => exact ⟨_, rfl, s.writeAflags_noticesKept ..⟩
  case accessMisuse access => exact exec_accessMisuse_noticesKept access s
  case registerWrite => exact ⟨_, rfl, s.writePlain_noticesKept ..⟩
  case setcfg n => exact ⟨_, exec_setcfg n s, .of_eq rfl rfl⟩
  case online n => exact ⟨_, exec_online n s, .of_eq rfl rfl⟩
  case offline n => exact ⟨_, exec_offline n s, .of_eq rfl rfl⟩
  case restore n => exact ⟨_, exec_restore n s, .of_eq rfl rfl⟩
  case detachClient number => exact exec_detachClient_noticesKept number s
  case detachAgent number => exact exec_detachAgent_noticesKept number s
  case attach number => exact exec_attach_noticesKept number s
  case softReset => exact ⟨_, rfl, s.softReset_noticesKept⟩
  case powerOnReset => exact ⟨_, rfl, s.powerOn_noticesKept _⟩
  case resetAssertion => exact ⟨_, rfl, s.assertLine_noticesKept _⟩
  case resetDeassertion => exact ⟨_, rfl, s.deassertLine_noticesKept _⟩
  case tick => exact exec_tick_noticesKept s
  case holdExpiry => exact ⟨_, rfl, agreed.holdExpiryOp_noticesKept ..⟩
  case waitExpiry => exact ⟨_, rfl, s.waitExpiryOp_noticesKept _⟩
  case sweepStep => exact ⟨_, rfl, s.sweepStepOp_noticesKept⟩
  case waitStep => exact ⟨_, rfl, s.waitStepOp_noticesKept⟩
  case holdStep => exact ⟨_, rfl, s.holdStepOp_noticesKept⟩
  case flushStep => exact ⟨_, rfl, s.flushStepOp_noticesKept⟩
  case clientJobFinalStep => exact ⟨_, rfl, s.clientJobFinalOp_noticesKept⟩
  case agentJobFinalStep => exact ⟨_, rfl, s.agentJobFinalOp_noticesKept⟩
  all_goals exact ⟨_, rfl, .of_eq rfl rfl⟩

theorem State.clockPeriod_noticesKept (s : State) : s.clockPeriod.NoticesKept s := by
  unfold State.clockPeriod
  split
  · split
    · exact s.tick_noticesKept
    · exact .of_eq rfl rfl
  · exact .refl s

/-- Every step keeps the law of every agent's notices. -/
theorem State.Agreed.step_noticesKept {t : State} (agreed : s.Agreed) (ht : step s = .next t) : t.NoticesKept s := by
  refine of_step (P := fun u => u.NoticesKept s) ht s.clockPeriod_noticesKept fun i rest => ?_
  have taken : State.Agreed { s with pending := rest } := agreed.of_eq rfl rfl rfl rfl
  obtain ⟨u, hu, kept⟩ := exec_noticesKept i taken
  exact ⟨u, hu, kept.trans (.of_eq rfl rfl)⟩

end

/-- Settles O51: an agent needs a slot for each notice and each wait, which no step brings above 16; before and
after a step from a sound state the slots reserved are the waits (R96), and a WAITING client has one. -/
theorem noticeSlotsNeverExceedSixteen : Obligations.NoticeSlotsNeverExceedSixteen := by
  intro s t h ht
  have agreed := h.step_agreed ht
  have lawful : ∀ a, t.AgentLawful a := fun a =>
    (h.agreed.step_noticesKept ht).agent a (h.agreed.noticesSound_iff.1 h.notices a)
  refine ⟨agreed.noticesSound_iff.2 lawful, fun a => ?_⟩
  exact (Nat.add_le_add_left (agreed.waiting_le_waitCount a) _).trans (lawful a).slots

end Sys2Proof.Machine
end

section
/-! MAIL (R107), the reads of a notice queue (R104, R165), and the thresholds that limit what they store (R105, R33). -/

namespace Sys2Proof.Machine

/-! ### MAIL (R107) -/

/-- A MAIL of any origin does what R107 says. -/
theorem State.mailOp_mailTaken (s : State) (o : Origin) (target : AgentId) (payload : BitVec 16) :
    (s.mailOp o target payload).MailTaken s o target payload := by
  unfold State.mailOp State.MailTaken State.mailChecks
  simp only [firstApplying_cons, firstApplying_nil, beq_iff_eq, bne_iff_ne, decide_eq_true_eq, Bool.not_eq_true',
    State.slotFree_eq_false_iff]
  split_ifs
  case neg => exact ⟨_, s.setNu_nuChanged target _, State.answer_answered ..⟩
  all_goals exact s.answer_answered ..

/-- Settles O11, for the origin of an ACMD word. -/
theorem mailFollowsItsChecks : Obligations.MailFollowsItsChecks := fun _ _ target payload _ s =>
  ⟨_, rfl, s.mailOp_mailTaken _ target payload⟩

/-! ### The notice word (R165) -/

section
variable (slot : Slot) (lock : LockId)

theorem slotBits_toNat : (bits 2 slot).toNat = slot := bits_toNat_of_lt slot.isLt

theorem lockBits_toNat : (bits 6 lock).toNat = lock := bits_toNat_of_lt lock.isLt

theorem Notice.encode_granted_toNat (mode : Mode) (suspect : Bool) (generation : BitVec 16) :
    (Notice.granted slot lock mode suspect generation).encode.toNat =
      1 * 2 ^ 29 + suspect.toNat * 2 ^ 25 + (if mode = .shared then 1 else 0) * 2 ^ 24 + slot * 2 ^ 22
        + lock * 2 ^ 16 + generation.toNat := by
  have kind : (bits 3 1).toNat = 1 := rfl
  simp only [Notice.encode, toNat_append_fields, kind, bits_zero_toNat, flag_toNat, modeBit_toNat, slotBits_toNat,
    lockBits_toNat]
  omega

theorem Notice.encode_waitEnded_toNat (reason : WaitEndReason) :
    (Notice.waitEnded slot lock reason).encode.toNat =
      2 * 2 ^ 29 + (if reason = .dead then 1 else 0) * 2 ^ 26 + slot * 2 ^ 22 + lock * 2 ^ 16 := by
  have kind : (bits 3 2).toNat = 2 := rfl
  simp only [Notice.encode, toNat_append_fields, kind, bits_zero_toNat, WaitEndReason.bit_toNat, slotBits_toNat,
    lockBits_toNat]
  omega

theorem Notice.encode_warned_toNat (generation : BitVec 16) :
    (Notice.warned slot lock generation).encode.toNat =
      3 * 2 ^ 29 + slot * 2 ^ 22 + lock * 2 ^ 16 + generation.toNat := by
  have kind : (bits 3 3).toNat = 3 := rfl
  simp only [Notice.encode, toNat_append_fields, kind, bits_zero_toNat, slotBits_toNat, lockBits_toNat]
  omega

theorem Notice.encode_revoked_toNat (generation : BitVec 16) :
    (Notice.revoked slot lock generation).encode.toNat =
      4 * 2 ^ 29 + slot * 2 ^ 22 + lock * 2 ^ 16 + generation.toNat := by
  have kind : (bits 3 4).toNat = 4 := rfl
  simp only [Notice.encode, toNat_append_fields, kind, bits_zero_toNat, slotBits_toNat, lockBits_toNat]
  omega

theorem Notice.encode_mail_toNat (sender : ClientId) (payload : BitVec 16) :
    (Notice.mail sender payload).encode.toNat = 5 * 2 ^ 29 + sender * 2 ^ 16 + payload.toNat := by
  have kind : (bits 3 5).toNat = 5 := rfl
  have client : (bits 5 sender).toNat = sender := bits_toNat_of_lt sender.isLt
  simp only [Notice.encode, toNat_append_fields, kind, bits_zero_toNat, client]
  omega

end

/-! ### Reads of the queue (R104) -/

/-- A word read of NOTICE leaves the word of the head in the read data, and the queue without it. -/
theorem exec_noticePop (a : AgentId) (s : State) :
    exec (.noticePop a) s =
      .next
        { s.setNu a { s.nu a with queue := (s.nu a).queue.tail } with
          busData := encodeHead (s.nu a).queue.head? } := rfl

/-- A read of NPEEK returns the same word. -/
theorem State.readReg_npeek (s : State) (a : AgentId) :
    s.readReg (.agent a .npeek) = some (encodeHead (s.nu a).queue.head?) := rfl

/-- A misused read returns 0, sets ACCESS_ERR and does nothing else (R128). -/
theorem exec_accessMisuse_read {acc : BusAccess} (read : acc.write = none) (s : State) :
    exec (.accessMisuse acc) s =
      .next { s with busData := 0, su := { s.su with flags := { s.su.flags with accessErr := true } } } := by
  show execAccessMisuse acc s = _
  unfold execAccessMisuse
  rw [read]
  rfl

/-- Settles O17: a read of NOTICE and of NPEEK by whether the queue has a head, and the notice word kind by kind. -/
theorem noticeReadsPopTheHead : Obligations.NoticeReadsPopTheHead := by
  refine ⟨fun a s => ⟨fun n rest queue => ?_, fun empty => ?_, fun _ => ⟨rfl, rfl⟩, fun acc _ read => ?_⟩, fun n => ?_⟩
  · rw [exec_noticePop, s.readReg_npeek, queue]
    exact ⟨rfl, _, _, rfl, s.setNu_nuChanged a { s.nu a with queue := rest }, rfl⟩
  · have same : { s.nu a with queue := [] } = s.nu a := by rw [← empty]
    rw [exec_noticePop, s.readReg_npeek, empty, List.tail_nil, same, State.setNu_self]
    exact ⟨rfl, rfl⟩
  · exact ⟨_, exec_accessMisuse_read read s, rfl⟩
  · cases n
    case granted => exact Notice.encode_granted_toNat ..
    case waitEnded => exact Notice.encode_waitEnded_toNat ..
    case warned => exact Notice.encode_warned_toNat ..
    case revoked => exact Notice.encode_revoked_toNat ..
    case mail => exact Notice.encode_mail_toNat ..

/-! ### The thresholds (R105, R33) -/

/-- The threshold stored by NQCFG, by cases (R105). -/
theorem thresholdOf_val (w : Word) :
    (thresholdOf w).val =
      if fieldOf w 0 8 = 0 then 1 else if 16 < fieldOf w 0 8 then 16 else fieldOf w 0 8 := by
  unfold thresholdOf
  split
  · rfl
  · exact clamp_val 16 _

/-- A write of NQCFG changes the threshold of its agent and nothing else (R105). -/
theorem State.writePlain_nqcfg_nuChanged (s : State) (a : AgentId) (w : Word) :
    (s.writePlain (.nqcfg a) w).NuChanged s a { s.nu a with threshold := thresholdOf w } :=
  s.setNu_nuChanged a _

/-- A read of NQCFG returns the threshold. -/
theorem State.readReg_nqcfg (s : State) (a : AgentId) :
    s.readReg (.agent a .nqcfg) = some (BitVec.ofNat 32 (s.nu a).threshold) := rfl

/-- Settles O21: each register stores its limited field, and its write touches nothing else. -/
theorem thresholdsAreLimited : Obligations.ThresholdsAreLimited := by
  intro w s v p
  refine ⟨fun a => ⟨_, rfl, ?_⟩, _, rfl, clamp_val 96 (fieldOf w 16 8), rfl, rfl⟩
  have changed := s.writePlain_nqcfg_nuChanged a w
  have ⟨nu, _⟩ := changed
  rw [State.readReg_nqcfg, nu, thresholdOf_val]
  exact ⟨rfl, changed, rfl⟩

end Sys2Proof.Machine
end

section
/-! The commands and edges that detach and attach (R113, R116, R117). -/

namespace Sys2Proof.Machine

/-! ### DETACH_CLIENT, DETACH_AGENT and ATTACH (R116, R117) -/

theorem clientOfNumber_eq {number : Fin 64} {c : ClientId} (h : c.val = number.val % 32) :
    clientOfNumber number = c :=
  Fin.ext h.symm

theorem agentOfNumber_eq {number : Fin 64} {a : AgentId} (h : a.val = number.val % 8) : agentOfNumber number = a :=
  Fin.ext h.symm

/-- A detach request of one client names that client alone (R116). -/
theorem State.detachRequest_onlySlot (s : State) (a : AgentId) (sl : Slot) (scope : Scope) :
    (s.detachRequest a (onlySlot sl) scope).Requested s a (fun sm => sm == sl) scope := by
  have named : (fun sm => (onlySlot sl).get sm) = fun sm => sm == sl := by
    funext sm
    rw [onlySlot_get, beq_eq_decide]
  exact named ▸ s.detachRequest_requested a (onlySlot sl) scope

/-- A detach request of an agent names all its clients (R113, R117). -/
theorem State.detachRequest_everySlot (s : State) (a : AgentId) (scope : Scope) :
    (s.detachRequest a everySlot scope).Requested s a (fun _ => true) scope := by
  have named : (fun sm => everySlot.get sm) = fun _ => true := funext everySlot_get
  exact named ▸ s.detachRequest_requested a everySlot scope

section
variable (number : Fin 64) (s : State)

theorem exec_detachClient_of_live
    (live : (s.client (clientOfNumber number)).state = .ready ∨ (s.client (clientOfNumber number)).state = .waiting) :
    exec (.detachClient number) s =
      .next ((s.detachRequest (agentOf (clientOfNumber number)) (onlySlot (slotOf (clientOfNumber number)))
        .client).setSResult .done 7 (numberOfClient (clientOfNumber number))) :=
  congrArg Host.Outcome.next (if_pos live)

theorem exec_detachClient_of_not_live
    (gone : ¬ ((s.client (clientOfNumber number)).state = .ready
      ∨ (s.client (clientOfNumber number)).state = .waiting)) :
    exec (.detachClient number) s = .next (s.setSResult .already 7 (numberOfClient (clientOfNumber number))) :=
  congrArg Host.Outcome.next (if_neg gone)

theorem exec_detachAgent_attached (h : (s.line (agentOfNumber number)).attach = .attached) :
    exec (.detachAgent number) s =
      .next ((s.detachRequest (agentOfNumber number) everySlot .agent).setSResult .done 8
        (numberOfAgent (agentOfNumber number))) := by
  show execDetachAgent number s = _
  simp only [execDetachAgent, h]
  rfl

theorem exec_detachAgent_detaching (h : (s.line (agentOfNumber number)).attach = .detaching) :
    exec (.detachAgent number) s = .next (s.setSResult .already 8 (numberOfAgent (agentOfNumber number))) := by
  show execDetachAgent number s = _
  simp only [execDetachAgent, h]
  rfl

theorem exec_detachAgent_detached (h : (s.line (agentOfNumber number)).attach = .detached) :
    exec (.detachAgent number) s = .next (s.setSResult .doneEmpty 8 (numberOfAgent (agentOfNumber number))) := by
  show execDetachAgent number s = _
  simp only [execDetachAgent, h]
  rfl

theorem exec_attach_attached (h : (s.line (agentOfNumber number)).attach = .attached) :
    exec (.attach number) s = .next (s.setSResult .already 9 (numberOfAgent (agentOfNumber number))) := by
  show execAttach number s = _
  simp only [execAttach, h]
  rfl

theorem exec_attach_detaching (h : (s.line (agentOfNumber number)).attach = .detaching) :
    exec (.attach number) s = .next (s.setSResult .busy 9 (numberOfAgent (agentOfNumber number))) := by
  show execAttach number s = _
  simp only [execAttach, h]
  rfl

theorem exec_attach_detached (h : (s.line (agentOfNumber number)).attach = .detached) :
    exec (.attach number) s =
      .next (if (s.line (agentOfNumber number)).asserted = true then
          s.setSResult .lineHeld 9 (numberOfAgent (agentOfNumber number))
        else (s.attachAgent (agentOfNumber number)).setSResult .done 9 (numberOfAgent (agentOfNumber number))) := by
  show execAttach number s = _
  simp only [execAttach, h]
  rfl

end

/-- Settles O29: each command makes its request, or only answers. -/
theorem detachCommandsPlaceARequest : Obligations.DetachCommandsPlaceARequest := by
  intro number s
  refine ⟨fun c hc => ?_, fun a ha => ?_⟩
  · obtain rfl := clientOfNumber_eq hc
    by_cases live : (s.client (clientOfNumber number)).state = .ready
        ∨ (s.client (clientOfNumber number)).state = .waiting
    · simp only [if_pos live]
      exact ⟨_, _, exec_detachClient_of_live number s live, s.detachRequest_onlySlot ..,
        State.setSResult_reported ..⟩
    · simp only [if_neg live]
      exact ⟨_, s, exec_detachClient_of_not_live number s live, rfl, State.setSResult_reported ..⟩
  · obtain rfl := agentOfNumber_eq ha
    cases h : (s.line (agentOfNumber number)).attach
    case attached =>
      exact ⟨_, _, exec_detachAgent_attached number s h, s.detachRequest_everySlot .., State.setSResult_reported ..⟩
    case detaching => exact ⟨_, s, exec_detachAgent_detaching number s h, rfl, State.setSResult_reported ..⟩
    case detached => exact ⟨_, s, exec_detachAgent_detached number s h, rfl, State.setSResult_reported ..⟩

/-- Settles O30: ATTACH by the attach state, and the line of a DETACHED agent. -/
theorem attachNeedsADetachedAgentAndAReleasedLine : Obligations.AttachNeedsADetachedAgentAndAReleasedLine := by
  intro number s a ha
  obtain rfl := agentOfNumber_eq ha
  cases h : (s.line (agentOfNumber number)).attach
  case attached => exact ⟨_, s, exec_attach_attached number s h, rfl, State.setSResult_reported ..⟩
  case detaching => exact ⟨_, s, exec_attach_detaching number s h, rfl, State.setSResult_reported ..⟩
  case detached =>
    have attach := exec_attach_detached number s h
    cases line : (s.line (agentOfNumber number)).asserted <;> rw [line] at attach
    case true => exact ⟨_, s, attach, rfl, State.setSResult_reported ..⟩
    case false => exact ⟨_, _, attach, s.attachAgent_attached _, State.setSResult_reported ..⟩

/-! ### Line edges (R113) -/

section
variable {s : State} {a : AgentId}

theorem State.assertLine_of_asserted (h : (s.line a).asserted = true) : s.assertLine a = s := by
  rw [State.assertLine, if_pos h]

theorem State.assertLine_of_attached (line : (s.line a).asserted = false) (attach : (s.line a).attach = .attached) :
    s.assertLine a = (s.setLevel a true).detachRequest a everySlot .agent := by
  simp [State.assertLine, line, attach]

theorem State.assertLine_of_not_attached (line : (s.line a).asserted = false)
    (attach : (s.line a).attach ≠ .attached) : s.assertLine a = s.setLevel a true := by
  simp [State.assertLine, line, attach]

theorem State.deassertLine_of_deasserted (h : (s.line a).asserted = false) : s.deassertLine a = s := by
  simp [State.deassertLine, h]

theorem State.deassertLine_of_autoAttach (line : (s.line a).asserted = true)
    (auto : (s.line a).attach = .detached ∧ (s.agentConfig a).autoAttach = true) :
    s.deassertLine a = (s.setLevel a false).attachAgent a := by
  simp [State.deassertLine, line, auto]

theorem State.deassertLine_of_not_autoAttach (line : (s.line a).asserted = true)
    (manual : ¬ ((s.line a).attach = .detached ∧ (s.agentConfig a).autoAttach = true)) :
    s.deassertLine a = s.setLevel a false := by
  simp only [State.deassertLine, line, State.setLevel_eq, State.setLine_line, State.setLine_agentConfig]
  exact if_neg manual

end

/-- Settles O34: an edge records its level, and detaches an ATTACHED agent or attaches a DETACHED one. -/
theorem lineEdgesDetachAndAttach : Obligations.LineEdgesDetachAndAttach := by
  intro a s
  refine ⟨⟨s.assertLine a, rfl, ?_⟩, ⟨s.deassertLine a, rfl, ?_⟩⟩
  · split_ifs with asserted attach
    · exact State.assertLine_of_asserted asserted
    · rw [State.assertLine_of_attached (by simpa using asserted) attach]
      exact State.detachRequest_everySlot ..
    · exact State.assertLine_of_not_attached (by simpa using asserted) attach
  · split_ifs with deasserted auto
    · exact State.deassertLine_of_deasserted deasserted
    · rw [State.deassertLine_of_autoAttach (by simpa using deasserted) auto]
      exact State.attachAgent_attached ..
    · exact State.deassertLine_of_not_autoAttach (by simpa using deasserted) auto

end Sys2Proof.Machine
end

section
/-! The steps of the ACTIVE job (R118 to R123). -/

namespace Sys2Proof.Machine

/-! ### The steps of one client (R118 to R120) -/

section
variable {s : State} {j : Job} {sl : Slot}

theorem State.reclaimWait_of_idle {c : ClientId} (idle : (s.client c).wait = none) : s.reclaimWait c = s := by
  simp only [State.reclaimWait, idle]

theorem State.reclaimWait_of_wait {c : ClientId} {w : WaitRecord} (waits : (s.client c).wait = some w) :
    s.reclaimWait c = (s.cancelWait c w.lock).grantEval w.lock := by
  simp only [State.reclaimWait, waits]

theorem State.waitStepOp_of_active (active : s.activeJob = some { job := j, position := .step sl .wait }) :
    s.waitStepOp =
      (s.reclaimWait (clientOf j.agent sl)).setActiveJob (some { job := j, position := .step sl .hold }) := by
  simp only [State.waitStepOp, active]

/-- Settles O39: the wait is cancelled, or there is none. -/
theorem waitStepCancelsTheWait : Obligations.WaitStepCancelsTheWait := by
  intro s j sl active
  refine ⟨_, s.reclaimWait (clientOf j.agent sl), congrArg Host.Outcome.next (State.waitStepOp_of_active active), rfl,
    ?_⟩
  split
  · next idle => exact State.reclaimWait_of_idle idle
  · next w waits => exact ⟨_, s.cancelWait_waitEnded _ w.lock, State.reclaimWait_of_wait waits⟩

theorem State.holdStepOp_of_empty (active : s.activeJob = some { job := j, position := .step sl .hold })
    (empty : s.heldList (clientOf j.agent sl) = []) :
    s.holdStepOp = s.setActiveJob (some { job := j, position := .step sl .flush }) := by
  simp only [State.holdStepOp, active, empty, List.getLast?_nil]

theorem State.holdStepOp_of_newest (active : s.activeJob = some { job := j, position := .step sl .hold })
    {older : List Hold} {h : Hold} (held : s.heldList (clientOf j.agent sl) = older ++ [h]) :
    s.holdStepOp = s.reclaimHold h := by
  simp only [State.holdStepOp, active, held, List.getLast?_concat]

/-- Settles O40: the newest hold is the one its client has on its lock, and its removal is what the LE does to
it. -/
theorem holdStepReclaimsTheNewestHold : Obligations.HoldStepReclaimsTheNewestHold := by
  intro s j sl active c nodup
  refine ⟨s.holdStepOp, rfl, State.holdStepOp_of_empty active, fun older h held => ?_⟩
  have found : s.findHold c h.lock = some h := State.findHold_of_nodup (by simp [held]) nodup
  exact ⟨_, State.removeHold_holdRemoved .orphaned found, State.holdStepOp_of_newest active held⟩

theorem State.flushStepOp_of_active (active : s.activeJob = some { job := j, position := .step sl .flush }) :
    s.flushStepOp =
      (s.flushClient j.agent sl).setActiveJob
        (some { job := { j with set := j.set.set sl false }, position := firstPosition (j.set.set sl false) }) := by
  simp only [State.flushStepOp, active]

theorem State.flushClient_nuChanged (s : State) (a : AgentId) (sl : Slot) :
    (s.flushClient a sl).NuChanged s a { s.nu a with queue := (s.nu a).queue.filter fun n => !n.concerns sl } :=
  s.setNu_nuChanged a _

/-- Settles O41: the client flush keeps the notices that do not concern the client. -/
theorem flushStepRemovesTheClientsNotices : Obligations.FlushStepRemovesTheClientsNotices := by
  intro s j sl active
  obtain ⟨nu, nus, frame⟩ := s.flushClient_nuChanged j.agent sl
  refine ⟨_, s.flushClient j.agent sl, _, congrArg Host.Outcome.next (State.flushStepOp_of_active active),
    ⟨nu.trans ?_, nus, frame⟩, firstPosition_atLowest _, rfl⟩
  refine congrArg (fun q => { s.nu j.agent with queue := q }) (List.filter_congr fun n _ => ?_)
  cases n <;> rfl

end

/-! ### The final steps (R121 to R123) -/

/-- The contexts of clients changed, no one twice: each changes as given, and nothing else. -/
theorem State.changeClients_spec (s : State) (g : Client → Client) (a : AgentId) {slots : List Slot}
    (nodup : slots.Nodup) :
    (∀ c, (s.changeClients g a slots).client c =
        if agentOf c = a ∧ slotOf c ∈ slots then g (s.client c) else s.client c)
      ∧ s.changeClients g a slots = { s with clients := (s.changeClients g a slots).clients } := by
  induction slots generalizing s with
  | nil => exact ⟨fun c => by simp [State.changeClients], rfl⟩
  | cons sl slots ih =>
    obtain ⟨new, nodup⟩ := List.nodup_cons.1 nodup
    obtain ⟨client, frame⟩ := ih (s.setClient (clientOf a sl) (g (s.client (clientOf a sl)))) nodup
    refine ⟨fun c => (client c).trans ?_, frame⟩
    by_cases hc : c = clientOf a sl
    · simp [hc, new]
    · have other : agentOf c = a → slotOf c ≠ sl := by
        rintro rfl rfl
        exact hc (clientOf_agentOf_slotOf c).symm
      by_cases ha : agentOf c = a
      · simp [hc, ha, other ha]
      · simp [hc, ha]

theorem State.clientJobFinalOp_of_active {s : State} {j : Job}
    (active : s.activeJob = some { job := j, position := .final }) (scope : j.scope = .client) :
    s.clientJobFinalOp = (s.endClientJob j).endJob := by
  simp only [State.clientJobFinalOp, active, scope, if_true]

theorem State.agentJobFinalOp_of_active {s : State} {j : Job}
    (active : s.activeJob = some { job := j, position := .final }) (scope : j.scope = .agent) :
    s.agentJobFinalOp = (s.endAgentJob j.agent).endJob := by
  simp only [State.agentJobFinalOp, active, scope, if_true]

/-- The named clients of an ATTACHED agent return (R121). -/
theorem State.endClientJob_of_attached {s : State} {j : Job} (h : (s.line j.agent).attach = .attached) :
    s.endClientJob j = s.changeClients Client.returned j.agent (allSlots.filter fun sl => j.named.get sl) := by
  simp only [State.endClientJob, h, State.returnClient_eq]
  rfl

theorem State.endClientJob_of_detaching {s : State} {j : Job} (h : (s.line j.agent).attach = .detaching) :
    s.endClientJob j = s.carryClients j := by
  simp only [State.endClientJob, h]

theorem State.endClientJob_of_detached {s : State} {j : Job} (h : (s.line j.agent).attach = .detached) :
    s.endClientJob j = s := by
  simp only [State.endClientJob, h]

/-- What the return of the named clients does (R121). -/
theorem State.endClientJob_returned {s : State} {j : Job} (h : (s.line j.agent).attach = .attached) :
    (∀ c, (s.endClientJob j).client c =
        if agentOf c = j.agent ∧ j.named.get (slotOf c) = true then (s.client c).returned else s.client c)
      ∧ s.endClientJob j = { s with clients := (s.endClientJob j).clients } := by
  rw [State.endClientJob_of_attached h]
  obtain ⟨client, frame⟩ := s.changeClients_spec Client.returned j.agent
    (allSlots_nodup.filter fun sl => j.named.get sl)
  exact ⟨fun c => by simp [client c], frame⟩

/-- Settles O42: the end of the job after what becomes of the named clients. -/
theorem clientJobEndReturnsOrCarriesTheClients : Obligations.ClientJobEndReturnsOrCarriesTheClients := by
  intro s j active scope present
  refine ⟨_, s.endClientJob j, congrArg Host.Outcome.next (State.clientJobFinalOp_of_active active scope),
    State.endJob_jobEnded _, ?_⟩
  split
  · next attached => exact State.endClientJob_returned attached
  · next elsewhere =>
    cases h : (s.line j.agent).attach
    case attached => exact absurd h elsewhere
    case detaching => exact State.endClientJob_of_detaching h
    case detached => exact absurd h present

/-- What the end of an agent's clients and queue does, with the attachment that follows (R113, R122). -/
structure State.AgentEnded (u s : State) (a : AgentId) (again : Bool) : Prop where
  client : ∀ c, u.client c =
    if agentOf c = a then
      { s.client c with
        state := if again = true then .ready else .off
        lastWaitEnd := .none
        revoked := Vector.replicate 64 false }
    else s.client c
  nu : u.nu a = { s.nu a with queue := [] }
  nus : ∀ b, b ≠ a → u.nu b = s.nu b
  line : u.line a = { s.line a with attach := if again = true then .attached else .detached }
  lines : ∀ b, b ≠ a → u.line b = s.line b
  frame : u = { s with clients := u.clients, notices := u.notices, lines := u.lines }

/-- An agent is ended and not attached again (R122, steps 1 to 3). -/
theorem State.agentEnded_off (s : State) (a : AgentId) :
    (((s.changeClients Client.turnedOff a allSlots).flushAgent a).setAttach a .detached).AgentEnded s a false := by
  obtain ⟨client, frame⟩ := s.changeClients_spec Client.turnedOff a allSlots_nodup
  have nu : ∀ b, (s.changeClients Client.turnedOff a allSlots).nu b = s.nu b := fun b => by rw [frame]; rfl
  have line : ∀ b, (s.changeClients Client.turnedOff a allSlots).line b = s.line b := fun b => by rw [frame]; rfl
  refine ⟨fun c => ?_, by simp [nu], fun b hb => by simp [nu, hb], by simp [line],
    fun b hb => by simp [line, hb], ?_⟩
  · simp [client c, Client.turnedOff]
  · rw [frame]
    rfl

/-- It may be attached again (R122, step 4). -/
theorem State.AgentEnded.attachAgent {u s : State} {a : AgentId} (h : u.AgentEnded s a false) :
    (u.attachAgent a).AgentEnded s a true := by
  obtain ⟨line, lines, client, frame⟩ := u.attachAgent_attached a
  have nu : ∀ b, (u.attachAgent a).nu b = u.nu b := fun b => by rw [frame]; rfl
  refine ⟨fun c => ?_, (nu a).trans h.nu, fun b hb => (nu b).trans (h.nus b hb), ?_,
    fun b hb => (lines b hb).trans (h.lines b hb), ?_⟩
  · rw [client, h.client]
    split <;> simp
  · rw [line, h.line]
    rfl
  · rw [frame, h.frame]

theorem State.endAgentJob_agentEnded (s : State) (a : AgentId) :
    (s.endAgentJob a).AgentEnded s a ((s.agentConfig a).autoAttach && !(s.line a).asserted) := by
  have off := s.agentEnded_off a
  obtain ⟨-, frame⟩ := s.changeClients_spec Client.turnedOff a allSlots_nodup
  have config : (s.changeClients Client.turnedOff a allSlots).agentConfig a = s.agentConfig a := by rw [frame]; rfl
  have line : (s.changeClients Client.turnedOff a allSlots).line a = s.line a := by rw [frame]; rfl
  have ended : s.endAgentJob a =
      if (s.agentConfig a).autoAttach && !(s.line a).asserted then
        (((s.changeClients Client.turnedOff a allSlots).flushAgent a).setAttach a .detached).attachAgent a
      else ((s.changeClients Client.turnedOff a allSlots).flushAgent a).setAttach a .detached := by
    rw [← config, ← line]
    simp only [State.endAgentJob, State.setAttach_eq, State.setLine_line, if_true]
    rfl
  rw [ended]
  cases (s.agentConfig a).autoAttach && !(s.line a).asserted
  · exact off
  · exact off.attachAgent

/-- Settles O43: the end of the job after the end of its agent. -/
theorem agentJobEndTurnsTheClientsOff : Obligations.AgentJobEndTurnsTheClientsOff := by
  intro s j active scope
  obtain ⟨client, nu, nus, line, lines, frame⟩ := s.endAgentJob_agentEnded j.agent
  exact ⟨_, s.endAgentJob j.agent, congrArg Host.Outcome.next (State.agentJobFinalOp_of_active active scope),
    State.endJob_jobEnded _, client, nu, nus, line, lines, frame⟩

end Sys2Proof.Machine
end

section
/-! What the happenings outside the RE do to what reclaim jobs read (R112, R115): the job queue, the attach states
and the lines stay, and a client stays OFF or DETACHING, where it begins no wait and gains no hold. -/

namespace Sys2Proof.Machine

/-! ### The relation and how it composes -/

/-- READY or WAITING: no job is at work on the client, and its agent is ATTACHED. -/
def ClientState.live (st : ClientState) : Prop :=
  st = .ready ∨ st = .waiting

/-- Client `c` is READY or WAITING before and after, or keeps its state and has no wait and no hold it did not
have. -/
def State.ClientKept (t s : State) (c : ClientId) : Prop :=
  ((t.client c).state.live ∧ (s.client c).state.live)
    ∨ ((t.client c).state = (s.client c).state
      ∧ ((s.client c).wait = none → (t.client c).wait = none)
      ∧ (s.heldLocks c = [] → t.heldLocks c = []))

/-- `t` is `s` in all that the laws of the jobs read. -/
structure State.JobsKept (t s : State) : Prop where
  lines : t.lines = s.lines
  activeJob : t.activeJob = s.activeJob
  waitingJobs : t.waitingJobs = s.waitingJobs
  client : ∀ c, t.ClientKept s c

/-- No client that is OFF waits (R20). -/
def State.OffIdle (s : State) : Prop :=
  ∀ c, (s.client c).state = .off → (s.client c).wait = none

theorem State.Agreed.offIdle {s : State} (agreed : s.Agreed) : s.OffIdle :=
  fun c off => ((agreed.client c).off off).1

theorem State.OffIdle.live {s : State} {c : ClientId} (idle : s.OffIdle) (waits : (s.client c).wait.isSome = true)
    (staying : (s.client c).state ≠ .detaching) : (s.client c).state.live := by
  cases h : (s.client c).state
  case off => simp [idle c h] at waits
  case ready => exact .inl rfl
  case waiting => exact .inr rfl
  case detaching => exact absurd h staying

section
variable {r s t : State} {c : ClientId}

theorem State.ClientKept.of_eq (client : t.client c = s.client c) (held : s.heldLocks c = [] → t.heldLocks c = []) :
    t.ClientKept s c :=
  .inr ⟨by rw [client], fun h => by rw [client, h], held⟩

theorem State.ClientKept.trans (h₂ : t.ClientKept s c) (h₁ : s.ClientKept r c) : t.ClientKept r c := by
  rcases h₂ with ⟨live₂, live₁⟩ | ⟨state₂, wait₂, held₂⟩ <;> rcases h₁ with ⟨live, live₀⟩ | ⟨state₁, wait₁, held₁⟩
  · exact .inl ⟨live₂, live₀⟩
  · exact .inl ⟨live₂, state₁ ▸ live₁⟩
  · exact .inl ⟨state₂ ▸ live, live₀⟩
  · exact .inr ⟨state₂.trans state₁, fun h => wait₂ (wait₁ h), fun h => held₂ (held₁ h)⟩

theorem State.ClientKept.live_iff (h : t.ClientKept s c) : (t.client c).state.live ↔ (s.client c).state.live := by
  rcases h with ⟨after, before⟩ | ⟨state, -⟩
  · exact iff_of_true after before
  · rw [state]

/-- A client that is OFF or DETACHING is so before and after. -/
theorem State.ClientKept.state_iff (h : t.ClientKept s c) {st : ClientState} (gone : ¬ st.live) :
    (t.client c).state = st ↔ (s.client c).state = st := by
  rcases h with ⟨after, before⟩ | ⟨state, -⟩
  · exact iff_of_false (fun e => gone (e ▸ after)) fun e => gone (e ▸ before)
  · rw [state]

theorem State.ClientKept.wait_of_not_live (h : t.ClientKept s c) (gone : ¬ (s.client c).state.live)
    (idle : (s.client c).wait = none) : (t.client c).wait = none := by
  rcases h with ⟨-, live⟩ | ⟨-, wait, -⟩
  · exact absurd live gone
  · exact wait idle

theorem State.ClientKept.stripped (h : t.ClientKept s c) (gone : ¬ (s.client c).state.live) (stripped : s.Stripped c) :
    t.Stripped c := by
  refine ⟨h.wait_of_not_live gone stripped.1, ?_⟩
  rcases h with ⟨-, live⟩ | ⟨-, -, held⟩
  · exact absurd live gone
  · exact (t.heldLocks_eq_nil_iff c).1 (held ((s.heldLocks_eq_nil_iff c).2 stripped.2))

theorem State.heldLocks_nil_of_sublist (h : t.pool.Sublist s.pool) (c : ClientId) (none : s.heldLocks c = []) :
    t.heldLocks c = [] :=
  List.sublist_nil.1 (none ▸ State.heldLocks_sublist h c)

theorem State.JobsKept.trans (h₂ : t.JobsKept s) (h₁ : s.JobsKept r) : t.JobsKept r :=
  ⟨h₂.lines.trans h₁.lines, h₂.activeJob.trans h₁.activeJob, h₂.waitingJobs.trans h₁.waitingJobs,
    fun c => (h₂.client c).trans (h₁.client c)⟩

/-- A change of none of these parts. -/
theorem State.JobsKept.of_eq (pool : t.pool = s.pool) (clients : t.clients = s.clients) (lines : t.lines = s.lines)
    (activeJob : t.activeJob = s.activeJob) (waitingJobs : t.waitingJobs = s.waitingJobs) : t.JobsKept s := by
  refine ⟨lines, activeJob, waitingJobs, fun c => .of_eq ?_ (State.heldLocks_of_pool pool c).trans⟩
  rw [State.client, clients, State.client]

theorem State.JobsKept.refl (s : State) : s.JobsKept s := .of_eq rfl rfl rfl rfl rfl

theorem State.JobsKept.congr (h : s.JobsKept r) (pool : t.pool = s.pool) (clients : t.clients = s.clients)
    (lines : t.lines = s.lines) (activeJob : t.activeJob = s.activeJob) (waitingJobs : t.waitingJobs = s.waitingJobs) :
    t.JobsKept r :=
  .trans (.of_eq pool clients lines activeJob waitingJobs) h

/-- Such changes add no client that is OFF and waits. -/
theorem State.JobsKept.offIdle (h : t.JobsKept s) (idle : s.OffIdle) : t.OffIdle := by
  intro d off
  have gone : ¬ ClientState.off.live := by simp [ClientState.live]
  have before := ((h.client d).state_iff gone).1 off
  exact (h.client d).wait_of_not_live (before ▸ gone) (idle d before)

/-- One client that is READY or WAITING before and after changes. -/
theorem State.JobsKept.of_live (after : (t.client c).state.live) (before : (s.client c).state.live)
    (others : ∀ d, d ≠ c → t.client d = s.client d) (held : ∀ d, d ≠ c → t.heldLocks d = s.heldLocks d)
    (lines : t.lines = s.lines) (activeJob : t.activeJob = s.activeJob) (waitingJobs : t.waitingJobs = s.waitingJobs) :
    t.JobsKept s := by
  refine ⟨lines, activeJob, waitingJobs, fun d => ?_⟩
  by_cases hd : d = c
  · exact .inl (hd ▸ ⟨after, before⟩)
  · exact .of_eq (others d hd) (held d hd).trans

end

/-! ### Clients and holds changed in place -/

section
variable {s t : State}

theorem State.setClient_jobsKept {c : ClientId} {x : Client} (state : x.state = (s.client c).state)
    (wait : (s.client c).wait = none → x.wait = none) : (s.setClient c x).JobsKept s := by
  refine ⟨rfl, rfl, rfl, fun d => ?_⟩
  by_cases hd : d = c
  · subst hd
    exact .inr ⟨by simp [state], fun h => by simp [wait h], id⟩
  · exact .of_eq (by simp [hd]) id

theorem State.setRevoked_jobsKept (c : ClientId) (n : LockId) (b : Bool) : (s.setRevoked c n b).JobsKept s :=
  State.setClient_jobsKept rfl id

theorem State.answer_jobsKept (o : Origin) (x : Result) (n : LockId) (g : BitVec 16) :
    (s.answer o x n g).JobsKept s := by
  refine ⟨by simp, by simp, by simp, fun c => .inr ⟨?_, ?_, (State.heldLocks_of_pool (s.answer_pool o x n g) c).trans⟩⟩
  · rw [State.answer_client]
    split <;> rfl
  · rw [State.answer_client]
    split <;> exact id

theorem State.NoticePassed.jobsKept {x : Hold} {revoked : Bool} (h : t.NoticePassed s x revoked) : t.JobsKept s := by
  obtain ⟨-, -, frame⟩ := h
  exact .of_eq (by rw [frame]) (by rw [frame]) (by rw [frame]) (by rw [frame]) (by rw [frame])

theorem State.heldLocks_updateHold (c : ClientId) (n : LockId) {f : Hold → Hold}
    (owner : ∀ x, (f x).client = x.client ∧ (f x).lock = x.lock) (d : ClientId) :
    (s.updateHold c n f).heldLocks d = s.heldLocks d := by
  refine State.heldLocks_of_map ⟨fun _ _ => rfl, fun x => ?_⟩ rfl d
  by_cases hx : (x.client == c && x.lock == n) = true
  · exact ⟨f x, if_pos hx, owner x⟩
  · exact ⟨x, if_neg hx, rfl, rfl⟩

theorem State.updateHold_jobsKept (c : ClientId) (n : LockId) {f : Hold → Hold}
    (owner : ∀ x, (f x).client = x.client ∧ (f x).lock = x.lock) : (s.updateHold c n f).JobsKept s :=
  ⟨rfl, rfl, rfl, fun d => .of_eq rfl (State.heldLocks_updateHold c n owner d).trans⟩

theorem State.tick_jobsKept : s.tick.JobsKept s := by
  have held : ∀ c, s.tick.heldLocks c = s.heldLocks c :=
    State.heldLocks_of_map (f := PoolRecord.tick) ⟨fun _ _ => rfl, fun x => ⟨_, rfl, rfl, rfl⟩⟩
      (by simp [State.tick])
  have client : ∀ c, s.tick.client c = (s.client c).tick := fun c => by simp [State.tick]
  refine ⟨by simp [State.tick], by simp [State.tick], by simp [State.tick],
    fun c => .inr ⟨?_, ?_, (held c).trans⟩⟩
  · rw [client]
    rfl
  · rw [client]
    exact fun h => by simp [Client.tick, h]

end

/-! ### Grants, and waits and holds that begin and end -/

section
variable {s t u : State}

/-- A client that is not DETACHING gains a hold (R42). -/
theorem State.createHold_jobsKept {c : ClientId} (n : LockId) (m : Mode) (live : (s.client c).state.live) :
    (s.createHold c n m).JobsKept s := by
  have client := s.createHold_client c n m
  refine .of_live (c := c) ?_ live (fun d hd => ?_) (fun d hd => ?_) rfl rfl rfl
  · rw [client, if_pos rfl]
    exact live
  · rw [client, if_neg hd]
  · exact (State.heldLocks_of_append (t := s.createHold c n m) rfl d).trans (if_neg hd)

theorem State.enqueue_jobsKept {c : ClientId} (n : LockId) (m : Mode) (p : Priority) (live : (s.client c).state.live) :
    (s.enqueue c n m p).JobsKept s := by
  refine .of_live (c := c) ?_ live (fun d hd => s.enqueue_client_of_ne c n m p hd) (fun d _ => ?_) rfl rfl rfl
  · rw [State.enqueue_client]
    exact .inr rfl
  · exact State.heldLocks_of_reservation (s.enqueue_pool c n m p) d

theorem State.grantWaiter_jobsKept {c : ClientId} (n : LockId) (live : (s.client c).state.live) :
    (s.grantWaiter n c).JobsKept s := by
  cases hw : (s.client c).wait with
  | none =>
    rw [State.grantWaiter_of_no_wait hw]
    exact .refl s
  | some w =>
    have frame := s.grantWaiter_frame n c fun detaching => by simp [detaching, ClientState.live] at live
    refine .of_live (c := c) ?_ live (fun d hd => s.grantWaiter_client_of_ne n hd) (fun d hd => ?_) frame.lines
      frame.activeJob frame.waitingJobs
    · rw [State.grantWaiter_client hw]
      exact .inl rfl
    · have append := State.heldLocks_of_append (s := s.setPool (s.pool.erase (.reservation c n)))
        (t := s.grantWaiter n c) (State.grantWaiter_pool hw) d
      rw [append.trans (if_neg hd), State.heldLocks_of_erase_reservation (s := s) rfl]

theorem State.foldl_grantWaiter_jobsKept (n : LockId) {cs : List ClientId} (live : ∀ c ∈ cs, (s.client c).state.live) :
    (cs.foldl (State.grantWaiter n) s).JobsKept s := by
  induction cs generalizing s with
  | nil => exact .refl s
  | cons c cs ih =>
    have first := State.grantWaiter_jobsKept n (live c List.mem_cons_self)
    exact (ih fun d hd => (first.client d).live_iff.2 (live d (List.mem_cons_of_mem c hd))).trans first

/-- Grant evaluation chooses waiters that are not DETACHING (R65). -/
theorem State.OffIdle.grantEval_jobsKept (idle : s.OffIdle) (n : LockId) : (s.grantEval n).JobsKept s := by
  refine State.foldl_grantWaiter_jobsKept n fun c hc => ?_
  obtain ⟨w, hw, -, staying, -⟩ := (s.eligible_iff n c).1 (s.waitersToGrant_eligible n hc).2
  exact idle.live (by simp [hw]) staying

theorem State.JobsKept.grantEval (h : t.JobsKept s) (idle : s.OffIdle) (n : LockId) : (t.grantEval n).JobsKept s :=
  ((h.offIdle idle).grantEval_jobsKept n).trans h

theorem State.JobsKept.foldl_grantEval (h : t.JobsKept s) (idle : s.OffIdle) (ns : List LockId) :
    (ns.foldl State.grantEval t).JobsKept s := by
  induction ns generalizing t with
  | nil => exact h
  | cons n ns ih => exact ih (h.grantEval idle n)

/-- A wait ends, and leaves its client READY, or in its state. -/
theorem State.WaitEnded.jobsKept {c : ClientId} {n : LockId} {st : ClientState} {e : WaitEnd} {notice : Option Notice}
    (h : u.WaitEnded s c n st e notice)
    (state : st = (s.client c).state ∨ (st = .ready ∧ (s.client c).state.live)) : u.JobsKept s := by
  obtain ⟨client, others, -, -, pool, -, -, frame⟩ := h
  have held := fun d => (State.heldLocks_of_erase_reservation pool d).trans (c := [])
  refine ⟨by rw [frame], by rw [frame], by rw [frame], fun d => ?_⟩
  by_cases hd : d = c
  · subst hd
    rcases state with same | ⟨rfl, live⟩
    · exact .inr ⟨by rw [client, same], fun _ => by rw [client], held d⟩
    · exact .inl ⟨by rw [client]; exact .inl rfl, live⟩
  · exact .of_eq (others d hd) (held d)

theorem State.OffIdle.endWaitReported_jobsKept (idle : s.OffIdle) {c : ClientId}
    (waits : (s.client c).wait.isSome = true) (n : LockId) (e : WaitEnd) (r : WaitEndReason) :
    (s.endWaitReported c n e r).JobsKept s := by
  refine (s.endWaitReported_waitEnded c n e r).jobsKept ?_
  split
  · next detaching => exact .inl detaching.symm
  · next staying => exact .inr ⟨rfl, idle.live waits staying⟩

theorem State.HoldRemoved.jobsKept {x : Hold} {alone : LockState} (h : u.HoldRemoved s x alone) : u.JobsKept s := by
  obtain ⟨pool, -, -, frame⟩ := h
  refine ⟨by rw [frame], by rw [frame], by rw [frame], fun c => .of_eq (by rw [frame]; rfl) ?_⟩
  exact State.heldLocks_nil_of_sublist (pool ▸ List.erase_sublist) c

theorem State.Agreed.revoke_jobsKept {c : ClientId} {n : LockId} {x : Hold} (agreed : s.Agreed)
    (found : s.findHold c n = some x) : (s.revoke x).JobsKept s :=
  ((State.passUnreserved_noticePassed _ x true).jobsKept.trans
    ((State.setRevoked_jobsKept x.client x.lock true).trans
      (State.removeHold_holdRemoved .orphaned found).jobsKept)).grantEval agreed.offIdle x.lock

theorem State.makeDead_frame (s : State) (c : ClientId) (n : LockId) :
    (s.makeDead c n).lines = s.lines ∧ (s.makeDead c n).activeJob = s.activeJob
      ∧ (s.makeDead c n).waitingJobs = s.waitingJobs := by
  unfold State.makeDead
  rw [State.raise_eq, State.deadFlush_eq, State.flushWaits_frame]
  exact ⟨rfl, rfl, rfl⟩

theorem State.Agreed.makeDead_jobsKept (agreed : s.Agreed) (c : ClientId) (n : LockId) :
    (s.makeDead c n).JobsKept s := by
  obtain ⟨lines, activeJob, waitingJobs⟩ := s.makeDead_frame c n
  have held := State.heldLocks_nil_of_sublist (s.makeDead_pool_sublist c n)
  refine ⟨lines, activeJob, waitingJobs, fun d => ?_⟩
  have client := s.makeDead_client (c := c) (agreed.waits.nodup n) d
  by_cases queued : d ∈ (s.lock n).queue
  · rw [if_pos queued] at client
    by_cases detaching : (s.client d).state = .detaching
    · exact .inr ⟨by rw [client, detaching]; rfl, fun _ => by rw [client], held d⟩
    · refine .inl ⟨?_, agreed.offIdle.live (agreed.waits.waitsOn_of_mem queued).isSome detaching⟩
      rw [client, if_neg detaching]
      exact .inl rfl
  · exact .of_eq (client.trans (if_neg queued)) (held d)

/-! ### Commands of clients -/

theorem State.Agreed.acquireOp_jobsKept (agreed : s.Agreed) (o : Origin) (n : LockId) (m : Mode) (k : Kind)
    (p : Priority) : (s.acquireOp o n m k p).JobsKept s := by
  have live : ∀ {d}, s.acquireDecision o.agent o.client n m k p = d → (∀ r, d ≠ .refuse r) →
      (s.client o.client).state.live := fun h passed => .inl (State.acquireDecision_client h passed).1
  unfold State.acquireOp
  split
  · exact State.answer_jobsKept ..
  · next h => exact (State.answer_jobsKept ..).trans (State.createHold_jobsKept n m (live h (by simp)))
  · next h =>
    exact ((State.answer_jobsKept ..).trans (State.enqueue_jobsKept n m p (live h (by simp)))).grantEval
      agreed.offIdle n

theorem State.Agreed.releaseOp_jobsKept (agreed : s.Agreed) (o : Origin) (n : LockId) :
    (s.releaseOp o n).JobsKept s := by
  unfold State.releaseOp
  split
  · exact State.answer_jobsKept ..
  · split
    · split
      · exact (State.answer_jobsKept ..).trans (State.setRevoked_jobsKept o.client n false)
      · exact State.answer_jobsKept ..
    · next found =>
      split
      · exact (State.answer_jobsKept ..).trans (agreed.makeDead_jobsKept o.client n)
      · exact (State.answer_jobsKept ..).trans
          ((State.removeHold_holdRemoved .free found).jobsKept.grantEval agreed.offIdle n)

theorem State.markCleanOp_jobsKept (o : Origin) (n : LockId) : (s.markCleanOp o n).JobsKept s := by
  unfold State.markCleanOp
  split
  · exact State.answer_jobsKept ..
  · split
    · split <;> exact State.answer_jobsKept ..
    · split
      · exact (State.answer_jobsKept ..).trans (.of_eq rfl rfl rfl rfl rfl)
      · exact State.answer_jobsKept ..

theorem State.Agreed.cancelOp_jobsKept (agreed : s.Agreed) (o : Origin) : (s.cancelOp o).JobsKept s := by
  unfold State.cancelOp
  split
  · exact State.answer_jobsKept ..
  · exact State.answer_jobsKept ..
  · next waiting =>
    split
    · exact State.answer_jobsKept ..
    · next w _ =>
      have ended := (s.cancelWait_ready_waitEnded o.client w.lock).jobsKept (.inr ⟨rfl, .inr waiting⟩)
      exact ((State.answer_jobsKept ..).trans ended).grantEval agreed.offIdle w.lock
  · split <;> exact State.answer_jobsKept ..

theorem State.renewOp_jobsKept (o : Origin) (n : LockId) : (s.renewOp o n).JobsKept s := by
  unfold State.renewOp
  split
  · exact State.answer_jobsKept ..
  · split
    · split <;> exact State.answer_jobsKept ..
    · split
      · exact State.answer_jobsKept ..
      · exact State.JobsKept.trans (State.answer_jobsKept ..)
          (State.updateHold_jobsKept o.client n fun _ => ⟨rfl, rfl⟩)

theorem State.mailOp_jobsKept (o : Origin) (target : AgentId) (payload : BitVec 16) :
    (s.mailOp o target payload).JobsKept s := by
  unfold State.mailOp
  split_ifs
  case neg => exact (State.answer_jobsKept ..).trans (.of_eq rfl rfl rfl rfl rfl)
  all_goals exact State.answer_jobsKept ..

/-! ### Expiries, the sweep and the registers -/

theorem State.warnHold_jobsKept (x : Hold) (countdown : Countdown) (phase : Phase) :
    (s.warnHold x countdown phase).JobsKept s :=
  State.JobsKept.trans (State.updateHold_jobsKept x.client x.lock fun _ => ⟨rfl, rfl⟩)
    (s.passUnreserved_noticePassed x false).jobsKept

theorem State.Agreed.expireHold_jobsKept {c : ClientId} {n : LockId} {x : Hold} (agreed : s.Agreed)
    (found : s.findHold c n = some x) : (s.expireHold x).JobsKept s := by
  unfold State.expireHold
  split
  · exact agreed.revoke_jobsKept found
  · split
    · exact State.warnHold_jobsKept ..
    · exact agreed.revoke_jobsKept found
    · split
      · exact agreed.revoke_jobsKept found
      · exact State.warnHold_jobsKept ..

theorem State.Agreed.holdExpiryOp_jobsKept (agreed : s.Agreed) (c : ClientId) (n : LockId) :
    (s.holdExpiryOp c n).JobsKept s := by
  unfold State.holdExpiryOp
  split
  · exact .refl s
  · next found =>
    split
    · exact agreed.expireHold_jobsKept found
    · exact .refl s

theorem State.Agreed.waitExpiryOp_jobsKept (agreed : s.Agreed) (c : ClientId) : (s.waitExpiryOp c).JobsKept s := by
  unfold State.waitExpiryOp
  split
  · exact .refl s
  · next w hw =>
    split
    · exact (agreed.offIdle.endWaitReported_jobsKept (State.isSome_of_wait hw) ..).grantEval agreed.offIdle w.lock
    · exact .refl s

theorem State.Agreed.sweepStepOp_jobsKept (agreed : s.Agreed) : s.sweepStepOp.JobsKept s := by
  have swept : (s.sweepLock s.su.sweep.position).JobsKept s := by
    unfold State.sweepLock
    split
    · exact .refl s
    · exact agreed.offIdle.grantEval_jobsKept _
  by_cases running : s.su.sweep.running = true
  · rw [State.sweepStepOp_of_running running]
    exact swept.congr rfl rfl rfl rfl rfl
  · rw [State.sweepStepOp_of_idle running]
    exact .refl s

theorem State.writePlain_jobsKept (r : PlainReg) (w : Word) : (s.writePlain r w).JobsKept s := by
  cases r
  case waitlim => exact State.setClient_jobsKept rfl id
  all_goals exact .of_eq rfl rfl rfl rfl rfl

theorem exec_accessMisuse_jobsKept (access : BusAccess) :
    ∃ t, exec (.accessMisuse access) s = .next t ∧ t.JobsKept s := by
  show ∃ t, execAccessMisuse access s = .next t ∧ t.JobsKept s
  unfold execAccessMisuse
  cases access.write <;> exact ⟨_, rfl, .of_eq rfl rfl rfl rfl rfl⟩

theorem State.clockPeriod_jobsKept : s.clockPeriod.JobsKept s := by
  unfold State.clockPeriod
  split
  · split
    · exact State.tick_jobsKept
    · exact .of_eq rfl rfl rfl rfl rfl
  · exact .refl s

end

end Sys2Proof.Machine
end

section
/-! The laws of the jobs (R112, R115) taken apart: which agents and clients the jobs claim, the job queue, and the
ACTIVE job; and what each change of a job does to them. -/

namespace Sys2Proof.Machine

/-! ### The laws taken apart -/

/-- The attach states and the client states agree with each other and with a list of jobs: an agent is DETACHING
while a job of AGENT scope is about it, a client while a job names it. -/
structure State.Claimed (s : State) (jobs : List Job) : Prop where
  agents : ∀ a, (s.line a).attach = .detaching ↔ ∃ j ∈ jobs, j.agent = a ∧ j.scope = .agent
  clients : ∀ c, (s.client c).state = .detaching ↔ ∃ j ∈ jobs, j.names c
  whole : ∀ c, (s.line (agentOf c)).attach = .detaching → (s.client c).state = .detaching
  off : ∀ c, (s.line (agentOf c)).attach = .detached ↔ (s.client c).state = .off

/-- A queue of WAITING jobs: one for an agent at most, none of them begun (R115). -/
structure QueueSound (jobs : List Job) : Prop where
  distinct : (jobs.map Job.agent).Nodup
  whole : ∀ j ∈ jobs, j.set = j.named

/-- The laws of the jobs, but for the lines of ATTACHED agents. -/
structure State.JobLaws (s : State) : Prop where
  claimed : s.Claimed s.jobs
  queue : QueueSound s.waitingJobs
  idle : s.activeJob = none → s.waitingJobs = []
  active : ∀ x, s.activeJob = some x → s.ActiveSound x

/-- The line of an ATTACHED agent is deasserted (R113). -/
def State.LinesReleased (s : State) : Prop :=
  ∀ a, (s.line a).attach = .attached → (s.line a).asserted = false

theorem State.jobsSound_iff (s : State) : s.JobsSound ↔ s.JobLaws ∧ s.LinesReleased := by
  constructor
  · rintro ⟨agents, clients, whole, off, released, distinct, full, idle, active⟩
    exact ⟨⟨⟨agents, clients, whole, off⟩, ⟨distinct, full⟩, idle, active⟩, released⟩
  · rintro ⟨⟨⟨agents, clients, whole, off⟩, ⟨distinct, full⟩, idle, active⟩, released⟩
    exact ⟨agents, clients, whole, off, released, distinct, full, idle, active⟩

theorem State.JobsSound.laws {s : State} (h : s.JobsSound) : s.JobLaws :=
  (s.jobsSound_iff.1 h).1

theorem State.JobsSound.released {s : State} (h : s.JobsSound) : s.LinesReleased :=
  (s.jobsSound_iff.1 h).2

theorem ClientState.not_live_detaching : ¬ ClientState.detaching.live := by
  simp [ClientState.live]

theorem ClientState.not_live_off : ¬ ClientState.off.live := by
  simp [ClientState.live]

section
variable {s t : State}

theorem State.LinesReleased.of_lines (h : s.LinesReleased) (lines : t.lines = s.lines) : t.LinesReleased := by
  intro a
  rw [State.line, lines]
  exact h a

/-! ### The jobs as a list -/

theorem State.jobs_of_active {x : ActiveJob} (active : s.activeJob = some x) : s.jobs = x.job :: s.waitingJobs := by
  simp [State.jobs, active]

theorem State.jobs_of_idle (idle : s.activeJob = none) : s.jobs = s.waitingJobs := by
  simp [State.jobs, idle]

theorem State.jobs_congr (activeJob : t.activeJob = s.activeJob) (waitingJobs : t.waitingJobs = s.waitingJobs) :
    t.jobs = s.jobs := by
  rw [State.jobs, activeJob, waitingJobs, State.jobs]

/-! ### What the claims read -/

/-- The claims read the attach states, and which clients are OFF or DETACHING. -/
theorem State.Claimed.congr {jobs : List Job} (h : s.Claimed jobs)
    (attach : ∀ a, (t.line a).attach = (s.line a).attach)
    (state : ∀ c st, ¬ ClientState.live st → ((t.client c).state = st ↔ (s.client c).state = st)) :
    t.Claimed jobs := by
  have detaching := fun c => state c _ ClientState.not_live_detaching
  refine ⟨fun a => ?_, fun c => (detaching c).trans (h.clients c), fun c => ?_, fun c => ?_⟩
  · rw [attach]
    exact h.agents a
  · rw [attach, detaching]
    exact h.whole c
  · rw [attach, state c _ ClientState.not_live_off]
    exact h.off c

theorem State.Claimed.of_eq {jobs : List Job} (h : s.Claimed jobs) (lines : t.lines = s.lines)
    (clients : t.clients = s.clients) : t.Claimed jobs :=
  h.congr (fun a => by rw [State.line, lines, State.line]) fun c st _ => by
    rw [State.client, clients, State.client]

theorem State.Claimed.of_kept {jobs : List Job} (h : s.Claimed jobs) (kept : t.JobsKept s) : t.Claimed jobs :=
  h.congr (fun a => by rw [State.line, kept.lines, State.line]) fun c _ gone => (kept.client c).state_iff gone

/-- Of the jobs, the claims read which agents and which clients they are about. -/
theorem State.Claimed.of_jobs {jobs jobs' : List Job} (h : s.Claimed jobs)
    (agents : ∀ a, (∃ j ∈ jobs', j.agent = a ∧ j.scope = .agent) ↔ ∃ j ∈ jobs, j.agent = a ∧ j.scope = .agent)
    (names : ∀ c, (∃ j ∈ jobs', j.names c) ↔ ∃ j ∈ jobs, j.names c) : s.Claimed jobs' :=
  ⟨fun a => (h.agents a).trans (agents a).symm, fun c => (h.clients c).trans (names c).symm, h.whole, h.off⟩

/-! ### The ACTIVE job -/

theorem firstPosition_cases (set : SlotSet) :
    firstPosition set = .final ∨ ∃ sl, firstPosition set = .step sl .wait := by
  unfold firstPosition
  split
  · exact .inl rfl
  · next sl _ => exact .inr ⟨sl, rfl⟩

/-- The lowest slot of a set is one, and so is the position at it. -/
theorem AtLowest.eq_firstPosition {set : SlotSet} {p : Position} (h : AtLowest set p) : p = firstPosition set := by
  obtain ⟨final, lowest⟩ := h
  obtain ⟨final', lowest'⟩ := firstPosition_atLowest set
  by_cases empty : ∀ sl, set.get sl = false
  · rw [final empty, final' empty]
  · obtain ⟨sl, member, least⟩ := WellFounded.has_min (wellFounded_lt (α := Slot)) {sl | set.get sl = true}
      (by simpa [Set.Nonempty] using empty)
    have below : ∀ sm, sm < sl → set.get sm = false := fun sm lt => by
      simpa using fun hm => least sm hm lt
    rw [lowest sl member below, lowest' sl member below]

/-- A job at its first position, as when it is activated and after each FLUSH step. -/
theorem State.activeSound_of_first {x : ActiveJob} (position : x.position = firstPosition x.job.set)
    (within : ∀ sl, x.job.set.get sl = true → x.job.named.get sl = true)
    (left : ∀ sl, x.job.named.get sl = true → x.job.set.get sl = false → s.Stripped (clientOf x.job.agent sl))
    (waiting : ∀ j ∈ s.waitingJobs, j.agent = x.job.agent →
      x.job.scope = .client ∧ ∀ sl, ¬ (j.named.get sl = true ∧ x.job.named.get sl = true)) : s.ActiveSound x := by
  refine ⟨within, left, ?_, waiting⟩
  rcases firstPosition_cases x.job.set with first | ⟨sl, first⟩ <;> rw [position, first]

/-- A job that has just become ACTIVE, the only one of its agent. -/
theorem State.activeSound_of_new {j : Job} {p : Position} (lowest : AtLowest j.set p) (whole : j.set = j.named)
    (only : ∀ k ∈ s.waitingJobs, k.agent ≠ j.agent) : s.ActiveSound { job := j, position := p } := by
  refine State.activeSound_of_first lowest.eq_firstPosition (fun sl h => ?_) (fun sl named set => ?_)
    fun k hk agent => absurd agent (only k hk)
  · exact whole ▸ h
  · simp [whole, named] at set

/-- The ACTIVE job where the clients it names are no less stripped than before. -/
theorem State.ActiveSound.of_stripped {x : ActiveJob} (h : s.ActiveSound x)
    (wait : ∀ sl, x.job.named.get sl = true → (s.client (clientOf x.job.agent sl)).wait = none →
      (t.client (clientOf x.job.agent sl)).wait = none)
    (stripped : ∀ sl, x.job.named.get sl = true → s.Stripped (clientOf x.job.agent sl) →
      t.Stripped (clientOf x.job.agent sl))
    (waiting : ∀ j ∈ t.waitingJobs, j.agent = x.job.agent →
      x.job.scope = .client ∧ ∀ sl, ¬ (j.named.get sl = true ∧ x.job.named.get sl = true)) : t.ActiveSound x := by
  obtain ⟨within, left, position, -⟩ := h
  refine ⟨within, fun sl named set => stripped sl named (left sl named set), ?_, waiting⟩
  have named : ∀ {sl}, firstPosition x.job.set = .step sl .wait → x.job.named.get sl = true :=
    fun first => within _ (firstPosition_step first)
  rcases x with ⟨j, ⟨sl, _ | _ | _⟩ | _⟩
  case step.wait => exact position
  case step.hold =>
    obtain ⟨first, idle⟩ := position
    exact ⟨first, wait sl (named first) idle⟩
  case step.flush =>
    obtain ⟨first, gone⟩ := position
    exact ⟨first, stripped sl (named first) gone⟩
  case final => exact position

/-- The clients the ACTIVE job names are DETACHING. -/
theorem State.JobLaws.detaching_of_active (laws : s.JobLaws) {x : ActiveJob} (active : s.activeJob = some x) {sl : Slot}
    (named : x.job.named.get sl = true) : (s.client (clientOf x.job.agent sl)).state = .detaching :=
  (laws.claimed.clients _).2 ⟨x.job, by simp [s.jobs_of_active active], by simp, by simpa using named⟩

/-- What leaves the clients and the jobs alone, as far as the laws read them, keeps the laws. -/
theorem State.JobLaws.of_kept (laws : s.JobLaws) (kept : t.JobsKept s) : t.JobLaws := by
  have claimed := laws.claimed.of_kept kept
  obtain ⟨-, activeJob, waitingJobs, client⟩ := kept
  refine ⟨?_, waitingJobs ▸ laws.queue, fun none => ?_, fun x hx => ?_⟩
  · rwa [State.jobs_congr activeJob waitingJobs]
  · rw [waitingJobs]
    exact laws.idle (activeJob ▸ none)
  · rw [activeJob] at hx
    have sound := laws.active x hx
    have gone : ∀ sl, x.job.named.get sl = true → ¬ (s.client (clientOf x.job.agent sl)).state.live :=
      fun sl named => by
        rw [laws.detaching_of_active hx named]
        exact ClientState.not_live_detaching
    have ⟨_, _, _, waiting⟩ := sound
    exact sound.of_stripped (fun sl named => (client _).wait_of_not_live (gone sl named))
      (fun sl named => (client _).stripped (gone sl named)) (by rwa [waitingJobs])

theorem State.JobsSound.of_kept (h : s.JobsSound) (kept : t.JobsKept s) : t.JobsSound :=
  t.jobsSound_iff.2 ⟨h.laws.of_kept kept, h.released.of_lines kept.lines⟩

/-- The ACTIVE job moves on: it keeps its agent, its scope and its named clients. -/
theorem State.JobLaws.setActiveJob (laws : s.JobLaws) {x y : ActiveJob} (active : s.activeJob = some x)
    (agent : y.job.agent = x.job.agent) (scope : y.job.scope = x.job.scope) (named : y.job.named = x.job.named)
    (sound : s.ActiveSound y) : (s.setActiveJob (some y)).JobLaws := by
  have claimed := laws.claimed
  rw [s.jobs_of_active active] at claimed
  refine ⟨?_, laws.queue, fun none => ?_, fun z hz => ?_⟩
  · have same : (s.setActiveJob (some y)).Claimed (x.job :: s.waitingJobs) := claimed.of_eq rfl rfl
    rw [State.jobs_of_active (s := s.setActiveJob (some y)) rfl]
    refine same.of_jobs (fun a => ?_) fun c => ?_
    · simp [agent, scope]
    · simp [Job.names, agent, named]
  · cases none
  · cases hz
    exact sound

/-- The laws where the ACTIVE job has done its work and is about to leave (R121 to R123): they hold for the WAITING
jobs alone. -/
structure State.JobOver (s : State) : Prop where
  claimed : s.Claimed s.waitingJobs
  queue : QueueSound s.waitingJobs
  released : s.LinesReleased

/-- Then the next job may be activated (R123). -/
theorem State.JobOver.endJob (h : s.JobOver) : s.endJob.JobsSound := by
  obtain ⟨claimed, ⟨distinct, whole⟩, released⟩ := h
  obtain ⟨frame, -, next⟩ := s.endJob_jobEnded
  have lines : s.endJob.lines = s.lines := by rw [frame]
  have ended : s.endJob.Claimed s.waitingJobs := claimed.of_eq lines (by rw [frame])
  refine (State.jobsSound_iff _).2 ⟨?_, released.of_lines lines⟩
  cases queue : s.waitingJobs with
  | nil =>
    rw [queue] at next ended
    obtain ⟨activeJob, waitingJobs⟩ := next
    refine ⟨?_, ?_, fun _ => waitingJobs, fun x hx => ?_⟩
    · rwa [State.jobs_of_idle activeJob, waitingJobs]
    · rw [waitingJobs]
      exact ⟨List.nodup_nil, by simp⟩
    · simp [activeJob] at hx
  | cons j js =>
    rw [queue] at next ended distinct whole
    obtain ⟨waitingJobs, p, lowest, activeJob⟩ := next
    obtain ⟨new, distinct⟩ := List.nodup_cons.1 distinct
    refine ⟨?_, ?_, fun none => ?_, fun x hx => ?_⟩
    · rwa [State.jobs_of_active activeJob, waitingJobs]
    · rw [waitingJobs]
      exact ⟨distinct, fun k hk => whole k (List.mem_cons_of_mem j hk)⟩
    · simp [activeJob] at none
    · obtain rfl := Option.some.inj (activeJob.symm.trans hx)
      refine State.activeSound_of_new lowest (whole j List.mem_cons_self) fun k hk agent => new ?_
      rw [← agent]
      exact List.mem_map_of_mem (waitingJobs ▸ hk)

end

end Sys2Proof.Machine
end

section
/-! What the happenings of the RE do to the laws of the jobs: detach requests, attachments, the steps of the ACTIVE
job and its end, line edges and the resets (R112 to R126). -/

namespace Sys2Proof.Machine

/-! ### Requests merged into the WAITING jobs (R115, R121) -/

/-- The WAITING jobs with the set given merged into that of an agent. -/
def mergeJobs (jobs : List Job) (a : AgentId) (set : SlotSet) (scope : Scope) : List Job :=
  jobs.map fun j => if j.agent = a then j.merge set scope else j

theorem mem_mergeJobs {jobs : List Job} {a : AgentId} {set : SlotSet} {scope : Scope} {k : Job} :
    k ∈ mergeJobs jobs a set scope ↔ ∃ j ∈ jobs, (if j.agent = a then j.merge set scope else j) = k := by
  simp [mergeJobs]

theorem mergeJobs_agents (jobs : List Job) (a : AgentId) (set : SlotSet) (scope : Scope) :
    (mergeJobs jobs a set scope).map Job.agent = jobs.map Job.agent := by
  rw [mergeJobs, List.map_map]
  refine List.map_congr_left fun j _ => ?_
  simp only [Function.comp]
  split <;> rfl

theorem QueueSound.mergeJobs {jobs : List Job} (h : QueueSound jobs) (a : AgentId) (set : SlotSet) (scope : Scope) :
    QueueSound (mergeJobs jobs a set scope) := by
  refine ⟨mergeJobs_agents jobs a set scope ▸ h.distinct, fun k hk => ?_⟩
  obtain ⟨j, hj, rfl⟩ := mem_mergeJobs.1 hk
  have whole := h.whole j hj
  split
  · simp [Job.merge, whole]
  · exact whole

/-- What a merge adds is what a job of its own would: for whatever such a job is asked. -/
theorem exists_mergeJobs_iff {jobs : List Job} {a : AgentId} {set : SlotSet} {scope : Scope} {P : Job → Prop}
    (present : ∃ j ∈ jobs, j.agent = a)
    (additive : ∀ j : Job, j.agent = a →
      (P (j.merge set scope) ↔ P j ∨ P { agent := a, set := set, named := set, scope := scope })) :
    (∃ k ∈ mergeJobs jobs a set scope, P k) ↔
      P { agent := a, set := set, named := set, scope := scope } ∨ ∃ j ∈ jobs, P j := by
  constructor
  · rintro ⟨k, hk, holds⟩
    obtain ⟨j, hj, rfl⟩ := mem_mergeJobs.1 hk
    split at holds
    · next agent => exact ((additive j agent).1 holds).symm.imp_right fun h => ⟨j, hj, h⟩
    · exact .inr ⟨j, hj, holds⟩
  · rintro (new | ⟨j, hj, holds⟩)
    · obtain ⟨j, hj, agent⟩ := present
      exact ⟨_, mem_mergeJobs.2 ⟨j, hj, if_pos agent⟩, (additive j agent).2 (.inr new)⟩
    · by_cases agent : j.agent = a
      · exact ⟨_, mem_mergeJobs.2 ⟨j, hj, if_pos agent⟩, (additive j agent).2 (.inl holds)⟩
      · exact ⟨_, mem_mergeJobs.2 ⟨j, hj, if_neg agent⟩, holds⟩

/-- Whether a job is of AGENT scope and about an agent is so asked. -/
theorem merge_agentScope_iff {j : Job} {a : AgentId} (set : SlotSet) (scope : Scope) (b : AgentId) (h : j.agent = a) :
    ((j.merge set scope).agent = b ∧ (j.merge set scope).scope = .agent) ↔
      (j.agent = b ∧ j.scope = .agent) ∨ (a = b ∧ scope = .agent) := by
  subst h
  cases scope
  case client => simp [Job.merge]
  case agent =>
    simp only [Job.merge, if_true, and_true]
    exact ⟨.inr, fun h => h.elim And.left id⟩

/-- Whether a job names a client is so asked. -/
theorem merge_names_iff {j : Job} {a : AgentId} (set : SlotSet) (scope : Scope) (c : ClientId) (h : j.agent = a) :
    (j.merge set scope).names c ↔
      j.names c ∨ Job.names { agent := a, set := set, named := set, scope := scope } c := by
  subst h
  simp only [Job.names, Job.merge, slotUnion_get, Bool.or_eq_true]
  tauto

/-! ### The placement of a request (R115) -/

section
variable {s t u : State} {a : AgentId} {set : SlotSet} {scope : Scope}

/-- A request is merged into a WAITING job of its agent, becomes the ACTIVE job, or is queued last. -/
theorem State.Placed.cases (h : t.Placed s a set scope) :
    ((∃ j ∈ s.waitingJobs, j.agent = a) ∧ t.activeJob = s.activeJob
        ∧ t.waitingJobs = mergeJobs s.waitingJobs a set scope)
      ∨ (s.activeJob = none ∧ s.waitingJobs = [] ∧ t.waitingJobs = []
        ∧ ∃ p, AtLowest set p
          ∧ t.activeJob = some { job := { agent := a, set := set, named := set, scope := scope }, position := p })
      ∨ ((∀ j ∈ s.waitingJobs, j.agent ≠ a) ∧ (s.activeJob = none → s.waitingJobs ≠ [])
        ∧ t.activeJob = s.activeJob
        ∧ t.waitingJobs = s.waitingJobs ++ [{ agent := a, set := set, named := set, scope := scope }]) := by
  obtain ⟨-, placed⟩ := h
  split_ifs at placed with present empty
  · obtain ⟨activeJob, waitingJobs⟩ := placed
    refine .inl ⟨present, activeJob, waitingJobs.trans (List.map_congr_left fun j _ => ?_)⟩
    cases scope <;> cases hj : j.scope <;> simp [Job.merge, hj]
  · obtain ⟨waitingJobs, active⟩ := placed
    exact .inr (.inl ⟨empty.1, empty.2, waitingJobs, active⟩)
  · obtain ⟨activeJob, waitingJobs⟩ := placed
    refine .inr (.inr ⟨fun j hj agent => present ⟨j, hj, agent⟩, fun none queue => empty ⟨none, queue⟩, activeJob,
      waitingJobs⟩)

/-- After its placement a request is among the jobs, by itself or merged. -/
theorem State.Placed.exists_jobs_iff (h : t.Placed s a set scope) {P : Job → Prop}
    (additive : ∀ j : Job, j.agent = a →
      (P (j.merge set scope) ↔ P j ∨ P { agent := a, set := set, named := set, scope := scope })) :
    (∃ j ∈ t.jobs, P j) ↔ ∃ j ∈ { agent := a, set := set, named := set, scope := scope } :: s.jobs, P j := by
  rw [List.exists_mem_cons_iff]
  rcases h.cases with ⟨present, activeJob, waitingJobs⟩ | ⟨idle, empty, waitingJobs, p, -, activeJob⟩
    | ⟨-, -, activeJob, waitingJobs⟩
  · have merged := exists_mergeJobs_iff present additive
    simp only [State.jobs, activeJob, waitingJobs, List.mem_append, or_and_right, exists_or, merged]
    exact or_left_comm
  · simp [State.jobs, idle, empty, waitingJobs, activeJob]
  · simp only [State.jobs, activeJob, waitingJobs, List.mem_append, or_and_right, exists_or, List.mem_singleton,
      exists_eq_left]
    rw [← or_assoc, or_comm]

theorem State.Placed.queueSound (h : t.Placed s a set scope) (queue : QueueSound s.waitingJobs) :
    QueueSound t.waitingJobs := by
  rcases h.cases with ⟨-, -, waitingJobs⟩ | ⟨-, -, waitingJobs, -⟩ | ⟨absent, -, -, waitingJobs⟩ <;> rw [waitingJobs]
  · exact queue.mergeJobs a set scope
  · exact ⟨List.nodup_nil, by simp⟩
  · obtain ⟨distinct, whole⟩ := queue
    refine ⟨?_, ?_⟩
    · rw [List.map_append, List.nodup_append']
      exact ⟨distinct, List.nodup_singleton _, by simpa using absent⟩
    · simpa [or_imp, forall_and] using whole

theorem State.Placed.idle (h : t.Placed s a set scope) (idle : s.activeJob = none → s.waitingJobs = [])
    (none : t.activeJob = none) : t.waitingJobs = [] := by
  rcases h.cases with ⟨-, activeJob, waitingJobs⟩ | ⟨-, -, waitingJobs, -⟩ | ⟨-, busy, activeJob, -⟩
  · rw [waitingJobs, idle (activeJob ▸ none)]
    rfl
  · exact waitingJobs
  · rw [activeJob] at none
    exact absurd (idle none) (busy none)

/-- The WAITING jobs after a placement are as before, or of the request's agent and hold the request. -/
theorem State.Placed.mem_waitingJobs (h : t.Placed s a set scope) {k : Job} (hk : k ∈ t.waitingJobs) :
    k ∈ s.waitingJobs
      ∨ k.agent = a ∧ ∀ sl, k.named.get sl = true →
        set.get sl = true ∨ ∃ j ∈ s.waitingJobs, j.agent = a ∧ j.named.get sl = true := by
  rcases h.cases with ⟨-, -, waitingJobs⟩ | ⟨-, -, waitingJobs, -⟩ | ⟨-, -, -, waitingJobs⟩ <;>
    rw [waitingJobs] at hk
  · obtain ⟨j, hj, rfl⟩ := mem_mergeJobs.1 hk
    split
    · next agent =>
      refine .inr ⟨agent, fun sl named => ?_⟩
      simp only [Job.merge, slotUnion_get, Bool.or_eq_true] at named
      exact named.symm.imp_right fun h => ⟨j, hj, agent, h⟩
    · exact .inl hj
  · simp at hk
  · rcases List.mem_append.1 hk with old | new
    · exact .inl old
    · obtain rfl := List.mem_singleton.1 new
      exact .inr ⟨rfl, fun sl named => .inl named⟩

end

/-! ### Detach requests (R114 to R117) -/

section
variable {s t u : State} {a : AgentId} {set : SlotSet} {scope : Scope} {named : Slot → Bool}

theorem State.MadeDetaching.client_eq (h : u.MadeDetaching s a set scope) (c : ClientId) :
    u.client c =
      if agentOf c = a ∧ set.get (slotOf c) = true then { s.client c with state := .detaching } else s.client c := by
  obtain ⟨own, others, -⟩ := h
  by_cases agent : agentOf c = a
  · have slot := own (slotOf c)
    rw [← agent, clientOf_agentOf_slotOf] at slot
    simp [slot, agent]
  · simp [others c agent, agent]

theorem State.MadeDetaching.attach_eq (h : u.MadeDetaching s a set scope) (b : AgentId) :
    (u.line b).attach = if b = a ∧ scope = .agent then .detaching else (s.line b).attach := by
  obtain ⟨-, -, line, lines, -⟩ := h
  by_cases agent : b = a
  · rw [agent, line]
    split <;> simp [*]
  · simp [lines b agent, agent]

/-- The slots of a request are those of the clients it names that are READY or WAITING. -/
def State.RequestSet (s : State) (a : AgentId) (named : Slot → Bool) (set : SlotSet) : Prop :=
  ∀ sl, set.get sl = true ↔
    named sl = true ∧ ((s.client (clientOf a sl)).state = .ready ∨ (s.client (clientOf a sl)).state = .waiting)

/-- On an ATTACHED agent a request that names every client leaves it none that is not DETACHING. -/
theorem State.RequestSet.detaching_of_not_mem {jobs : List Job} (members : s.RequestSet a named set)
    (claimed : s.Claimed jobs) (attached : (s.line a).attach = .attached) (all : ∀ sl, named sl = true) {c : ClientId}
    (agent : agentOf c = a) (new : set.get (slotOf c) = false) : (s.client c).state = .detaching := by
  subst agent
  have member := members (slotOf c)
  simp only [all, new, true_and, clientOf_agentOf_slotOf, Bool.false_eq_true, false_iff, not_or] at member
  have off := claimed.off c
  cases h : (s.client c).state
  case off => simp [attached, h] at off
  case ready => exact absurd h member.1
  case waiting => exact absurd h member.2
  case detaching => rfl

/-- The agent and the clients of a request are claimed by a job of its own (R114). -/
theorem State.MadeDetaching.claimed {jobs : List Job} (h : u.MadeDetaching s a set scope) (claimed : s.Claimed jobs)
    (attached : (s.line a).attach = .attached) (members : s.RequestSet a named set)
    (all : scope = .agent → ∀ sl, named sl = true) :
    u.Claimed ({ agent := a, set := set, named := set, scope := scope } :: jobs) := by
  refine ⟨fun b => ?_, fun c => ?_, fun c => ?_, fun c => ?_⟩
  · rw [h.attach_eq, List.exists_mem_cons_iff, ← claimed.agents]
    split
    · next new => exact iff_of_true rfl (.inl ⟨new.1.symm, new.2⟩)
    · next old => exact (or_iff_right fun new => old ⟨new.1.symm, new.2⟩).symm
  · rw [h.client_eq, List.exists_mem_cons_iff, ← claimed.clients]
    split
    · next new => exact iff_of_true rfl (.inl ⟨new.1.symm, new.2⟩)
    · next old => exact (or_iff_right fun new => old ⟨new.1.symm, new.2⟩).symm
  · rw [h.attach_eq, h.client_eq]
    split_ifs with ended new new
    · exact fun _ => rfl
    · obtain ⟨agent, scope⟩ := ended
      exact fun _ => members.detaching_of_not_mem claimed attached (all scope) agent (by simpa [agent] using new)
    · exact fun _ => rfl
    · exact claimed.whole c
  · have off := claimed.off c
    rw [h.attach_eq, h.client_eq]
    split_ifs with ended new new
    · simp
    · rw [ended.1, attached] at off
      simpa using off
    · simp [new.1, attached]
    · exact off

theorem State.MadeDetaching.offIdle (h : u.MadeDetaching s a set scope) (idle : s.OffIdle) : u.OffIdle := by
  intro c
  rw [h.client_eq]
  split
  · simp
  · exact idle c

/-- What a request does to a client that was DETACHING before it. -/
theorem State.Requested.clientKept (h : t.Requested s a named scope) (idle : s.OffIdle) {c : ClientId}
    (detaching : (s.client c).state = .detaching) : t.ClientKept s c := by
  obtain ⟨set, u, -, made, placed, -⟩ := h
  have evaluated := ((State.JobsKept.refl u).foldl_grantEval (made.offIdle idle) (s.waitLocks a set)).client c
  have client := made.client_eq c
  obtain ⟨-, -, -, -, frame⟩ := made
  have started : u.ClientKept s c := by
    refine .inr ⟨?_, fun none => ?_, (State.heldLocks_of_pool (by rw [frame]) c).trans⟩ <;> rw [client] <;> split
    · exact detaching.symm
    · rfl
    · exact none
    · exact none
  have placing : t.ClientKept ((s.waitLocks a set).foldl State.grantEval u) c :=
    .of_eq (by rw [placed]; rfl) (State.heldLocks_of_pool (by rw [placed]) c).trans
  exact placing.trans (evaluated.trans started)

/-- The ACTIVE job and the WAITING jobs of its agent name different clients after a request too: an ATTACHED agent has
no job of AGENT scope, and a client that the ACTIVE job names is not in the set of the request. -/
theorem State.JobLaws.apart_of_placed {v : State} {x : ActiveJob} {k : Job} (laws : s.JobLaws)
    (attached : (s.line a).attach = .attached) (members : s.RequestSet a named set) (placed : t.Placed v a set scope)
    (waitingJobs : v.waitingJobs = s.waitingJobs) (active : s.activeJob = some x) (hk : k ∈ t.waitingJobs)
    (agent : k.agent = x.job.agent) :
    x.job.scope = .client ∧ ∀ sl, ¬ (k.named.get sl = true ∧ x.job.named.get sl = true) := by
  obtain ⟨-, -, -, apart⟩ := laws.active x active
  rcases placed.mem_waitingJobs hk with old | ⟨agent', new⟩
  · exact apart k (waitingJobs ▸ old) agent
  · have own : x.job.agent = a := agent.symm.trans agent'
    refine ⟨?_, fun sl ⟨later, now⟩ => ?_⟩
    · cases h : x.job.scope
      case client => rfl
      case agent =>
        have detaching := (laws.claimed.agents a).2 ⟨x.job, by simp [s.jobs_of_active active], own, h⟩
        simp [attached] at detaching
    · rcases new sl later with member | ⟨j, hj, agent, later⟩
      · have detaching := laws.detaching_of_active active now
        have live := ((members sl).1 member).2
        rw [own] at detaching
        simp [detaching] at live
      · exact (apart j (waitingJobs ▸ hj) (agent.trans own.symm)).2 sl ⟨later, now⟩

/-- A detach request on an ATTACHED agent keeps the laws: of a CLIENT-scope request for some of its clients, or an
AGENT-scope one for all (R114, R115). -/
theorem State.JobLaws.detachRequest (laws : s.JobLaws) (idle : s.OffIdle) {slots : SlotSet}
    (attached : (s.line a).attach = .attached) (all : scope = .agent → ∀ sl, slots.get sl = true) :
    (s.detachRequest a slots scope).JobLaws := by
  have requested := s.detachRequest_requested a slots scope
  have client := fun c => requested.clientKept (c := c) idle
  obtain ⟨set, u, members, made, placed⟩ := requested
  have members : s.RequestSet a (fun sl => slots.get sl) set := members
  have kept := (State.JobsKept.refl u).foldl_grantEval (made.offIdle idle) (s.waitLocks a set)
  have claimed := (made.claimed laws.claimed attached members all).of_kept kept
  obtain ⟨-, -, -, -, frame⟩ := made
  generalize (s.waitLocks a set).foldl State.grantEval u = v at placed kept claimed
  have activeJob : v.activeJob = s.activeJob := kept.activeJob.trans (by rw [frame])
  have waitingJobs : v.waitingJobs = s.waitingJobs := kept.waitingJobs.trans (by rw [frame])
  rw [← State.jobs_congr activeJob waitingJobs] at claimed
  refine ⟨?_, placed.queueSound (waitingJobs ▸ laws.queue), placed.idle ?_, fun x hx => ?_⟩
  · have ⟨same, _⟩ := placed
    refine (claimed.of_eq (by rw [same]) (by rw [same])).of_jobs (fun b => ?_) fun c => ?_
    · exact placed.exists_jobs_iff fun j agent => merge_agentScope_iff set scope b agent
    · exact placed.exists_jobs_iff fun j agent => merge_names_iff set scope c agent
  · rw [activeJob, waitingJobs]
    exact laws.idle
  · have old : s.activeJob = some x → (s.detachRequest a slots scope).ActiveSound x := fun active => by
      have detaching := fun sl => laws.detaching_of_active (sl := sl) active
      have gone := fun sl named => detaching sl named ▸ ClientState.not_live_detaching
      exact (laws.active x active).of_stripped
        (fun sl named => (client _ (detaching sl named)).wait_of_not_live (gone sl named))
        (fun sl named => (client _ (detaching sl named)).stripped (gone sl named))
        fun k hk => laws.apart_of_placed attached members placed waitingJobs active hk
    rcases placed.cases with ⟨-, same, -⟩ | ⟨-, -, empty, p, lowest, new⟩ | ⟨-, -, same, -⟩
    · exact old (activeJob ▸ same ▸ hx)
    · obtain rfl := Option.some.inj (new.symm.trans hx)
      exact State.activeSound_of_new lowest rfl (by simp [empty])
    · exact old (activeJob ▸ same ▸ hx)

theorem State.foldl_grantEval_lines (ns : List LockId) (s : State) : (ns.foldl State.grantEval s).lines = s.lines := by
  induction ns generalizing s with
  | nil => rfl
  | cons n ns ih => exact (ih _).trans (s.grantEval_frame n).lines

theorem State.Requested.line_eq (h : t.Requested s a named scope) (b : AgentId) :
    t.line b = if b = a ∧ scope = .agent then { s.line b with attach := .detaching } else s.line b := by
  obtain ⟨set, u, -, ⟨-, -, line, lines, -⟩, placed, -⟩ := h
  have kept : t.line b = u.line b := by
    rw [placed]
    exact congrArg (fun v => v.get b) (State.foldl_grantEval_lines _ u)
  rw [kept]
  by_cases agent : b = a
  · subst agent
    simpa using line
  · simpa [agent] using lines b agent

/-- A request attaches no agent. -/
theorem State.Requested.released (h : t.Requested s a named scope)
    (released : ∀ b, ¬ (b = a ∧ scope = .agent) → (s.line b).attach = .attached → (s.line b).asserted = false) :
    t.LinesReleased := by
  intro b
  rw [h.line_eq]
  split
  · simp
  · next other => exact released b other

/-- A client that is READY or WAITING is of an ATTACHED agent. -/
theorem State.JobLaws.attached_of_live (laws : s.JobLaws) {c : ClientId} (live : (s.client c).state.live) :
    (s.line (agentOf c)).attach = .attached := by
  cases h : (s.line (agentOf c)).attach
  case attached => rfl
  case detaching => exact absurd (laws.claimed.whole c h ▸ live) ClientState.not_live_detaching
  case detached => exact absurd ((laws.claimed.off c).1 h ▸ live) ClientState.not_live_off

theorem State.JobsSound.detachRequest (h : s.JobsSound) (idle : s.OffIdle) {slots : SlotSet}
    (attached : (s.line a).attach = .attached) (all : scope = .agent → ∀ sl, slots.get sl = true) :
    (s.detachRequest a slots scope).JobsSound :=
  (State.jobsSound_iff _).2 ⟨h.laws.detachRequest idle attached all,
    (s.detachRequest_requested a slots scope).released fun b _ => h.released b⟩

end

/-! ### Attachments and line edges (R113) -/

section
variable {s t : State} {a : AgentId}

/-- The attachment of a DETACHED agent: no job is about it or its clients (R113). -/
theorem State.JobLaws.attached (laws : s.JobLaws) (h : t.Attached s a) (detached : (s.line a).attach = .detached) :
    t.JobLaws := by
  obtain ⟨line, lines, client, frame⟩ := h
  have claimed := laws.claimed
  have same : t.jobs = s.jobs := by rw [frame]; rfl
  have wait : ∀ c, (t.client c).wait = (s.client c).wait := fun c => by rw [client]; split <;> rfl
  have held : ∀ c, t.heldList c = s.heldList c := fun c => by rw [frame]; rfl
  have waitingJobs : t.waitingJobs = s.waitingJobs := by rw [frame]
  have activeJob : t.activeJob = s.activeJob := by rw [frame]
  refine ⟨⟨fun b => ?_, fun c => ?_, fun c => ?_, fun c => ?_⟩, waitingJobs ▸ laws.queue, ?_, fun x hx => ?_⟩
  · rw [same, ← claimed.agents]
    by_cases agent : b = a
    · simp [agent, line, detached]
    · rw [lines b agent]
  · rw [same, ← claimed.clients, client]
    split
    · next agent => simp [(claimed.off c).1 (agent ▸ detached)]
    · exact Iff.rfl
  · rw [client]
    by_cases agent : agentOf c = a
    · simp [agent, line]
    · rw [lines _ agent, if_neg agent]
      exact claimed.whole c
  · rw [client]
    by_cases agent : agentOf c = a
    · simp [agent, line]
    · rw [lines _ agent, if_neg agent]
      exact claimed.off c
  · rw [activeJob, waitingJobs]
    exact laws.idle
  · have sound := laws.active x (activeJob ▸ hx)
    have ⟨_, _, _, waiting⟩ := sound
    refine sound.of_stripped (fun sl _ none => (wait _).trans none) (fun sl _ stripped => ?_) (by rwa [waitingJobs])
    exact ⟨(wait _).trans stripped.1, (held _).trans stripped.2⟩

theorem State.JobsSound.attachAgent (h : s.JobsSound) (detached : (s.line a).attach = .detached)
    (released : (s.line a).asserted = false) : (s.attachAgent a).JobsSound := by
  have attached := s.attachAgent_attached a
  refine (State.jobsSound_iff _).2 ⟨h.laws.attached attached detached, fun b => ?_⟩
  obtain ⟨line, lines, -⟩ := attached
  by_cases agent : b = a
  · simp [agent, line, released]
  · rw [lines b agent]
    exact h.released b

/-- The laws of the jobs do not read the level of a line (R113). -/
theorem State.JobLaws.setLevel (laws : s.JobLaws) (a : AgentId) (level : Bool) : (s.setLevel a level).JobLaws := by
  have attach : ∀ b, ((s.setLevel a level).line b).attach = (s.line b).attach := fun b => by
    by_cases agent : b = a <;> simp [agent]
  exact ⟨laws.claimed.congr attach fun _ _ _ => Iff.rfl, laws.queue, laws.idle, laws.active⟩

theorem State.JobsSound.assertLine (h : s.JobsSound) (idle : s.OffIdle) (a : AgentId) : (s.assertLine a).JobsSound := by
  have laws := h.laws.setLevel a true
  have others : ∀ b, b ≠ a → ((s.setLevel a true).line b).attach = .attached →
      ((s.setLevel a true).line b).asserted = false := fun b other => by simpa [other] using h.released b
  cases asserted : (s.line a).asserted
  case true =>
    rw [State.assertLine_of_asserted asserted]
    exact h
  case false =>
    by_cases attach : (s.line a).attach = .attached
    · rw [State.assertLine_of_attached asserted attach]
      refine (State.jobsSound_iff _).2 ⟨laws.detachRequest idle (by simpa using attach) fun _ => everySlot_get, ?_⟩
      exact (State.detachRequest_everySlot _ a .agent).released fun b other => others b fun agent => other ⟨agent, rfl⟩
    · rw [State.assertLine_of_not_attached asserted attach]
      refine (State.jobsSound_iff _).2 ⟨laws, fun b attached => ?_⟩
      by_cases agent : b = a
      · simp [agent, attach] at attached
      · exact others b agent attached

theorem State.JobsSound.setLevel_false (h : s.JobsSound) (a : AgentId) : (s.setLevel a false).JobsSound := by
  refine (State.jobsSound_iff _).2 ⟨h.laws.setLevel a false, fun b => ?_⟩
  by_cases agent : b = a
  · simp [agent]
  · simpa [agent] using h.released b

theorem State.JobsSound.deassertLine (h : s.JobsSound) (a : AgentId) : (s.deassertLine a).JobsSound := by
  cases asserted : (s.line a).asserted
  case false =>
    rw [State.deassertLine_of_deasserted asserted]
    exact h
  case true =>
    by_cases auto : (s.line a).attach = .detached ∧ (s.agentConfig a).autoAttach = true
    · rw [State.deassertLine_of_autoAttach asserted auto]
      exact (h.setLevel_false a).attachAgent (by simpa using auto.1) (by simp)
    · rw [State.deassertLine_of_not_autoAttach asserted auto]
      exact h.setLevel_false a

end

/-! ### The steps of the ACTIVE job (R118 to R120) -/

section
variable {s : State}

theorem State.OffIdle.reclaimWait_jobsKept (idle : s.OffIdle) (c : ClientId) : (s.reclaimWait c).JobsKept s := by
  cases hw : (s.client c).wait with
  | none =>
    rw [State.reclaimWait_of_idle hw]
    exact .refl s
  | some w =>
    rw [State.reclaimWait_of_wait hw]
    exact ((s.cancelWait_waitEnded c w.lock).jobsKept (.inl rfl)).grantEval idle w.lock

/-- A DETACHING client whose wait is reclaimed waits for nothing: grant evaluation leaves it alone. -/
theorem State.reclaimWait_wait {c : ClientId} (detaching : (s.client c).state = .detaching) :
    ((s.reclaimWait c).client c).wait = none := by
  cases hw : (s.client c).wait with
  | none => rw [State.reclaimWait_of_idle hw, hw]
  | some w =>
    have ended := s.cancelWait_waitEnded c w.lock
    have idle := ended.wait
    obtain ⟨client, -⟩ := ended
    rw [State.reclaimWait_of_wait hw, (State.grantEval_frame _ w.lock).detaching c (by rw [client]; exact detaching),
      idle]

theorem State.JobsSound.setActiveJob (h : s.JobsSound) {x y : ActiveJob} (active : s.activeJob = some x)
    (agent : y.job.agent = x.job.agent) (scope : y.job.scope = x.job.scope) (named : y.job.named = x.job.named)
    (sound : s.ActiveSound y) : (s.setActiveJob (some y)).JobsSound :=
  (State.jobsSound_iff _).2 ⟨h.laws.setActiveJob active agent scope named sound, h.released.of_lines rfl⟩

theorem State.JobsSound.waitStepOp (h : s.JobsSound) (idle : s.OffIdle) : s.waitStepOp.JobsSound := by
  by_cases due : ∃ j sl, s.activeJob = some { job := j, position := .step sl .wait }
  · obtain ⟨j, sl, active⟩ := due
    have kept := idle.reclaimWait_jobsKept (clientOf j.agent sl)
    have reclaimed := h.of_kept kept
    have active' := kept.activeJob.trans active
    obtain ⟨within, left, first, waiting⟩ := reclaimed.laws.active _ active'
    rw [State.waitStepOp_of_active active]
    exact reclaimed.setActiveJob active' rfl rfl rfl
      ⟨within, left, ⟨first, State.reclaimWait_wait (h.detaching_of_waitStep active)⟩, waiting⟩
  · rw [State.waitStepOp_of_not_due fun j sl here => due ⟨j, sl, here⟩]
    exact h

theorem State.JobsSound.holdStepOp (h : s.JobsSound) (agreed : s.Agreed) : s.holdStepOp.JobsSound := by
  by_cases due : ∃ j sl, s.activeJob = some { job := j, position := .step sl .hold }
  · obtain ⟨j, sl, active⟩ := due
    rcases List.eq_nil_or_concat (s.heldList (clientOf j.agent sl)) with empty | ⟨older, x, held⟩
    · obtain ⟨within, left, ⟨first, idle⟩, waiting⟩ := h.laws.active _ active
      rw [State.holdStepOp_of_empty active empty]
      exact h.setActiveJob active rfl rfl rfl ⟨within, left, ⟨first, idle, empty⟩, waiting⟩
    · rw [List.concat_eq_append] at held
      have found := State.findHold_of_nodup (h := x) (by simp [held]) (agreed.client (clientOf j.agent sl)).nodup
      rw [State.holdStepOp_of_newest active held]
      exact h.of_kept ((State.removeHold_holdRemoved .orphaned found).jobsKept.grantEval agreed.offIdle x.lock)
  · rw [State.holdStepOp_of_not_due fun j sl here => due ⟨j, sl, here⟩]
    exact h

/-- The client that leaves the set at its FLUSH step is stripped (R120). -/
theorem State.JobsSound.flushStepOp (h : s.JobsSound) : s.flushStepOp.JobsSound := by
  by_cases due : ∃ j sl, s.activeJob = some { job := j, position := .step sl .flush }
  · obtain ⟨j, sl, active⟩ := due
    have flushed : (s.flushClient j.agent sl).JobsSound := h.of_kept (.of_eq rfl rfl rfl rfl rfl)
    obtain ⟨within, left, ⟨-, stripped⟩, waiting⟩ := flushed.laws.active _ active
    rw [State.flushStepOp_of_active active]
    refine flushed.setActiveJob active rfl rfl rfl
      (State.activeSound_of_first rfl (fun sm member => ?_) (fun sm named gone => ?_) waiting)
    · rw [vector_get_set] at member
      split at member
      · cases member
      · exact within sm member
    · rw [vector_get_set] at gone
      split at gone
      · next same => exact same ▸ stripped
      · exact left sm named gone
  · rw [State.flushStepOp_of_not_due fun j sl here => due ⟨j, sl, here⟩]
    exact h

end

/-! ### The final steps (R121 to R123) -/

section
variable {s u : State} {j : Job}

/-- The clients of a CLIENT-scope job return to an ATTACHED agent: no other job names them (R121). -/
theorem State.JobsSound.endClientJob_of_attached (h : s.JobsSound)
    (active : s.activeJob = some { job := j, position := .final }) (scope : j.scope = .client)
    (attached : (s.line j.agent).attach = .attached) : (s.endClientJob j).JobOver := by
  obtain ⟨client, frame⟩ := State.endClientJob_returned attached
  have line : ∀ a, (s.endClientJob j).line a = s.line a := fun a => by rw [frame]; rfl
  have waitingJobs : (s.endClientJob j).waitingJobs = s.waitingJobs := by rw [frame]
  obtain ⟨-, -, -, apart⟩ := h.laws.active _ active
  have claimed := h.laws.claimed
  rw [State.jobs_of_active active] at claimed
  refine ⟨⟨fun a => ?_, fun c => ?_, fun c => ?_, fun c => ?_⟩, waitingJobs ▸ h.laws.queue,
    h.released.of_lines (by rw [frame])⟩
  · rw [line, waitingJobs, claimed.agents]
    simp [scope]
  · rw [client, waitingJobs]
    split
    · next named =>
      refine iff_of_false (by simp [Client.returned]) ?_
      rintro ⟨k, hk, agent, later⟩
      exact (apart k hk (agent.trans named.1)).2 _ ⟨later, named.2⟩
    · next other =>
      rw [claimed.clients, List.exists_mem_cons_iff]
      exact or_iff_right fun now => other ⟨now.1.symm, now.2⟩
  · rw [line, client]
    split
    · next named => simp [named.1, attached]
    · exact claimed.whole c
  · rw [line, client]
    split
    · next named => simp [named.1, attached, Client.returned]
    · exact claimed.off c

/-- The clients of a CLIENT-scope job pass to the WAITING job of their DETACHING agent (R121). -/
theorem State.JobsSound.endClientJob_of_detaching (h : s.JobsSound)
    (active : s.activeJob = some { job := j, position := .final }) (scope : j.scope = .client)
    (detaching : (s.line j.agent).attach = .detaching) : (s.endClientJob j).JobOver := by
  have carried : s.carryClients j = s.setWaitingJobs (mergeJobs s.waitingJobs j.agent j.named .client) := rfl
  have claimed := h.laws.claimed
  rw [State.jobs_of_active active] at claimed
  have present : ∃ k ∈ s.waitingJobs, k.agent = j.agent := by
    obtain ⟨k, hk, agent, ended⟩ := (claimed.agents j.agent).1 detaching
    rcases List.mem_cons.1 hk with rfl | hk
    · simp [scope] at ended
    · exact ⟨k, hk, agent⟩
  rw [State.endClientJob_of_detaching detaching, carried]
  refine ⟨?_, h.laws.queue.mergeJobs .., h.released⟩
  have same : (s.setWaitingJobs (mergeJobs s.waitingJobs j.agent j.named .client)).Claimed (j :: s.waitingJobs) :=
    claimed.of_eq rfl rfl
  refine same.of_jobs (fun a => ?_) fun c => ?_ <;> rw [State.setWaitingJobs_waitingJobs, List.exists_mem_cons_iff]
  · rw [exists_mergeJobs_iff present fun k agent => merge_agentScope_iff j.named .client a agent, scope]
  · exact exists_mergeJobs_iff present fun k agent => merge_names_iff j.named .client c agent

/-- A CLIENT-scope job of a DETACHED agent, whose clients are OFF, would name none. -/
theorem State.JobsSound.endClientJob_of_detached (h : s.JobsSound)
    (active : s.activeJob = some { job := j, position := .final }) (scope : j.scope = .client)
    (detached : (s.line j.agent).attach = .detached) : (s.endClientJob j).JobOver := by
  have claimed := h.laws.claimed
  rw [State.jobs_of_active active] at claimed
  rw [State.endClientJob_of_detached detached]
  refine ⟨claimed.of_jobs (fun a => ?_) fun c => ?_, h.laws.queue, h.released⟩ <;> rw [List.exists_mem_cons_iff]
  · simp [scope]
  · refine (or_iff_right fun named => ?_).symm
    have off := (claimed.off c).1 (named.1 ▸ detached)
    have detaching := (claimed.clients c).2 ⟨j, List.mem_cons_self, named⟩
    simp [off] at detaching

theorem State.JobsSound.clientJobFinalOp (h : s.JobsSound) : s.clientJobFinalOp.JobsSound := by
  by_cases due : ∃ j, s.activeJob = some { job := j, position := .final } ∧ j.scope = .client
  · obtain ⟨j, active, scope⟩ := due
    rw [State.clientJobFinalOp_of_active active scope]
    refine State.JobOver.endJob ?_
    cases attach : (s.line j.agent).attach
    case attached => exact h.endClientJob_of_attached active scope attach
    case detaching => exact h.endClientJob_of_detaching active scope attach
    case detached => exact h.endClientJob_of_detached active scope attach
  · rw [State.clientJobFinalOp_of_not_due fun j here => ?_]
    · exact h
    · cases scope : j.scope
      case client => exact absurd ⟨j, here, scope⟩ due
      case agent => rfl

/-- The clients of an agent are OFF, or READY with the agent attached again: no other job is about it (R122). -/
theorem State.AgentEnded.jobOver {again : Bool} (ended : u.AgentEnded s j.agent again) (h : s.JobsSound)
    (active : s.activeJob = some { job := j, position := .final }) (scope : j.scope = .agent)
    (released : again = true → (s.line j.agent).asserted = false) : u.JobOver := by
  have waitingJobs : u.waitingJobs = s.waitingJobs := by rw [ended.frame]
  obtain ⟨-, -, -, apart⟩ := h.laws.active _ active
  have others : ∀ k ∈ s.waitingJobs, k.agent ≠ j.agent := fun k hk agent => by
    simpa [scope] using (apart k hk agent).1
  have claimed := h.laws.claimed
  rw [State.jobs_of_active active] at claimed
  refine ⟨⟨fun a => ?_, fun c => ?_, fun c => ?_, fun c => ?_⟩, waitingJobs ▸ h.laws.queue, fun a => ?_⟩
  · rw [waitingJobs]
    by_cases agent : a = j.agent
    · refine iff_of_false ?_ fun ⟨k, hk, agent', _⟩ => others k hk (agent'.trans agent)
      rw [agent, ended.line]
      cases again <;> simp
    · rw [ended.lines a agent, claimed.agents, List.exists_mem_cons_iff]
      exact or_iff_right fun own => agent own.1.symm
  · rw [waitingJobs, ended.client]
    split
    · next agent =>
      refine iff_of_false ?_ fun ⟨k, hk, named⟩ => others k hk (named.1.trans agent)
      cases again <;> simp
    · next agent =>
      rw [claimed.clients, List.exists_mem_cons_iff]
      exact or_iff_right fun own => agent own.1.symm
  · rw [ended.client]
    by_cases agent : agentOf c = j.agent
    · rw [agent, ended.line]
      cases again <;> simp
    · rw [ended.lines _ agent, if_neg agent]
      exact claimed.whole c
  · rw [ended.client]
    by_cases agent : agentOf c = j.agent
    · rw [agent, ended.line]
      cases again <;> simp
    · rw [ended.lines _ agent, if_neg agent]
      exact claimed.off c
  · by_cases agent : a = j.agent
    · rw [agent, ended.line]
      cases again
      · simp
      · exact fun _ => released rfl
    · rw [ended.lines a agent]
      exact h.released a

theorem State.JobsSound.agentJobFinalOp (h : s.JobsSound) : s.agentJobFinalOp.JobsSound := by
  by_cases due : ∃ j, s.activeJob = some { job := j, position := .final } ∧ j.scope = .agent
  · obtain ⟨j, active, scope⟩ := due
    rw [State.agentJobFinalOp_of_active active scope]
    exact ((s.endAgentJob_agentEnded j.agent).jobOver h active scope (by simp)).endJob
  · rw [State.agentJobFinalOp_of_not_due fun j here => ?_]
    · exact h
    · cases scope : j.scope
      case client => rfl
      case agent => exact absurd ⟨j, here, scope⟩ due

end

/-! ### The resets (R112, R126) -/

section
variable {s : State}

/-- There is no job, and no client or agent is DETACHING. -/
theorem State.jobsSound_of_no_jobs (activeJob : s.activeJob = none) (waitingJobs : s.waitingJobs = [])
    (attach : ∀ a, (s.line a).attach ≠ .detaching) (state : ∀ c, (s.client c).state ≠ .detaching)
    (off : ∀ c, (s.line (agentOf c)).attach = .detached ↔ (s.client c).state = .off) (released : s.LinesReleased) :
    s.JobsSound := by
  have jobs : s.jobs = [] := by rw [State.jobs_of_idle activeJob, waitingJobs]
  refine s.jobsSound_iff.2 ⟨⟨⟨fun a => ?_, fun c => ?_, fun c h => absurd h (attach _), off⟩, ?_, fun _ => waitingJobs,
    fun x hx => ?_⟩, released⟩
  · simp [jobs, attach]
  · simp [jobs, state]
  · rw [waitingJobs]
    exact ⟨List.nodup_nil, by simp⟩
  · simp [activeJob] at hx

theorem attachAfterSoftReset_ne_detaching (autoAttach : Bool) (l : AgentLine) :
    attachAfterSoftReset autoAttach l ≠ .detaching := by
  unfold attachAfterSoftReset
  split
  · simp
  · split <;> simp
  · simp

theorem attachAfterSoftReset_released {autoAttach : Bool} {l : AgentLine}
    (released : l.attach = .attached → l.asserted = false) (attached : attachAfterSoftReset autoAttach l = .attached) :
    l.asserted = false := by
  unfold attachAfterSoftReset at attached
  split at attached
  · next h => exact released h
  · split at attached
    · next h => simpa using (Bool.and_eq_true_iff.1 h).2
    · cases attached
  · cases attached

theorem clientAfterSoftReset_off_iff {st : AttachState} (h : st ≠ .detaching) :
    st = .detached ↔ clientAfterSoftReset st = .off := by
  cases st
  case attached => simp [clientAfterSoftReset]
  case detaching => exact absurd rfl h
  case detached => simp [clientAfterSoftReset]

theorem clientAfterSoftReset_ne_detaching (st : AttachState) : clientAfterSoftReset st ≠ .detaching := by
  cases st <;> simp [clientAfterSoftReset]

theorem State.softReset_line (s : State) (a : AgentId) :
    s.softReset.line a = { s.line a with attach := attachAfterSoftReset (s.agentConfig a).autoAttach (s.line a) } := by
  simp [State.softReset]

theorem State.softReset_client_state (s : State) (c : ClientId) :
    (s.softReset.client c).state =
      clientAfterSoftReset
        (attachAfterSoftReset (s.agentConfig (agentOf c)).autoAttach (s.line (agentOf c))) := by
  simp [State.softReset, Client.softReset]

theorem State.LinesReleased.softReset_jobsSound (released : s.LinesReleased) : s.softReset.JobsSound := by
  have attach : ∀ a, (s.softReset.line a).attach ≠ .detaching := fun a => by
    rw [State.softReset_line]
    exact attachAfterSoftReset_ne_detaching _ _
  refine State.jobsSound_of_no_jobs rfl rfl attach (fun c => ?_) (fun c => ?_) fun a => ?_
  · rw [State.softReset_client_state]
    exact clientAfterSoftReset_ne_detaching _
  · rw [State.softReset_client_state, State.softReset_line]
    exact clientAfterSoftReset_off_iff (attachAfterSoftReset_ne_detaching _ _)
  · rw [State.softReset_line]
    exact attachAfterSoftReset_released (released a)

theorem State.powerOn_line (s : State) (levels : BitVec 8) (a : AgentId) :
    (s.powerOn levels).line a = powerOnLine levels a :=
  vector_get_ofFn _ a

theorem State.powerOn_jobsSound (s : State) (levels : BitVec 8) : (s.powerOn levels).JobsSound := by
  refine State.jobsSound_of_no_jobs rfl rfl (fun a => ?_) (fun c => ?_) (fun c => ?_) fun a => ?_
  · rw [State.powerOn_line, powerOnLine]
    dsimp only
    split <;> simp
  · rw [State.powerOn_client, powerOnClient]
    dsimp only
    split <;> simp
  · rw [State.powerOn_line, State.powerOn_client, powerOnLine, powerOnClient]
    dsimp only
    split <;> simp
  · rw [State.powerOn_line, powerOnLine]
    dsimp only
    split
    · simp
    · next level => exact fun _ => by simpa using level

end

/-! ### Every command and every step -/

/-- The commands that the RE takes, and the resets. -/
def movesJobs : Instr → Bool
  | .detachClient _ => true
  | .detachAgent _ => true
  | .attach _ => true
  | .softReset _ => true
  | .powerOnReset _ => true
  | .resetAssertion _ => true
  | .resetDeassertion _ => true
  | .waitStep => true
  | .holdStep => true
  | .flushStep => true
  | .clientJobFinalStep => true
  | .agentJobFinalStep => true
  | _ => false

section
variable {s : State}

theorem exec_tick_jobsKept : ∃ t, exec .tick s = .next t ∧ t.JobsKept s := by
  refine ⟨_, exec_tick s, ?_⟩
  split
  · exact State.tick_jobsKept
  · exact .refl s

/-- Every other command leaves alone what the laws of the jobs read. -/
theorem exec_jobsKept {i : Instr} (hi : movesJobs i = false) (agreed : s.Agreed) :
    ∃ t, exec i s = .next t ∧ t.JobsKept s := by
  cases i
  case detachClient => cases hi
  case detachAgent => cases hi
  case attach => cases hi
  case softReset => cases hi
  case powerOnReset => cases hi
  case resetAssertion => cases hi
  case resetDeassertion => cases hi
  case waitStep => cases hi
  case holdStep => cases hi
  case flushStep => cases hi
  case clientJobFinalStep => cases hi
  case agentJobFinalStep => cases hi
  case acquire => exact ⟨_, rfl, agreed.acquireOp_jobsKept ..⟩
  case release => exact ⟨_, rfl, agreed.releaseOp_jobsKept ..⟩
  case cancel => exact ⟨_, rfl, agreed.cancelOp_jobsKept _⟩
  case renew => exact ⟨_, rfl, State.renewOp_jobsKept ..⟩
  case markClean => exact ⟨_, rfl, State.markCleanOp_jobsKept ..⟩
  case mail => exact ⟨_, rfl, State.mailOp_jobsKept ..⟩
  case badOpcode => exact ⟨_, rfl, State.answer_jobsKept ..⟩
  case claimRead a n =>
    exact ⟨_, rfl, (agreed.acquireOp_jobsKept (Origin.claimRead a (s.window a) n) n .exclusive .tryOnce
      (s.window a).priority).congr rfl rfl rfl rfl rfl⟩
  case claimWrite => exact ⟨_, rfl, agreed.releaseOp_jobsKept ..⟩
  case accessMisuse access => exact exec_accessMisuse_jobsKept access
  case registerWrite => exact ⟨_, rfl, State.writePlain_jobsKept ..⟩
  case setcfg n => exact ⟨_, exec_setcfg n s, .of_eq rfl rfl rfl rfl rfl⟩
  case online n => exact ⟨_, exec_online n s, .of_eq rfl rfl rfl rfl rfl⟩
  case offline n => exact ⟨_, exec_offline n s, .of_eq rfl rfl rfl rfl rfl⟩
  case restore n => exact ⟨_, exec_restore n s, .of_eq rfl rfl rfl rfl rfl⟩
  case tick => exact exec_tick_jobsKept
  case holdExpiry => exact ⟨_, rfl, agreed.holdExpiryOp_jobsKept ..⟩
  case waitExpiry => exact ⟨_, rfl, agreed.waitExpiryOp_jobsKept _⟩
  case sweepStep => exact ⟨_, rfl, agreed.sweepStepOp_jobsKept⟩
  all_goals exact ⟨_, rfl, .of_eq rfl rfl rfl rfl rfl⟩

/-- A supervisor result is no part of the jobs. -/
theorem State.JobsSound.setSResult (h : s.JobsSound) (r : SupResult) (code : BitVec 4) (number : Fin 64) :
    (s.setSResult r code number).JobsSound :=
  h.of_kept (.of_eq rfl rfl rfl rfl rfl)

theorem exec_detachClient_jobsSound (h : s.JobsSound) (idle : s.OffIdle) (number : Fin 64) :
    ∃ t, exec (.detachClient number) s = .next t ∧ t.JobsSound := by
  by_cases live : (s.client (clientOfNumber number)).state.live
  · exact ⟨_, exec_detachClient_of_live number s live,
      (h.detachRequest idle (h.laws.attached_of_live live) (by simp)).setSResult ..⟩
  · exact ⟨_, exec_detachClient_of_not_live number s live, h.setSResult ..⟩

theorem exec_detachAgent_jobsSound (h : s.JobsSound) (idle : s.OffIdle) (number : Fin 64) :
    ∃ t, exec (.detachAgent number) s = .next t ∧ t.JobsSound := by
  cases attach : (s.line (agentOfNumber number)).attach
  case attached =>
    exact ⟨_, exec_detachAgent_attached number s attach,
      (h.detachRequest idle attach fun _ => everySlot_get).setSResult ..⟩
  case detaching => exact ⟨_, exec_detachAgent_detaching number s attach, h.setSResult ..⟩
  case detached => exact ⟨_, exec_detachAgent_detached number s attach, h.setSResult ..⟩

theorem exec_attach_jobsSound (h : s.JobsSound) (number : Fin 64) :
    ∃ t, exec (.attach number) s = .next t ∧ t.JobsSound := by
  cases attach : (s.line (agentOfNumber number)).attach
  case attached => exact ⟨_, exec_attach_attached number s attach, h.setSResult ..⟩
  case detaching => exact ⟨_, exec_attach_detaching number s attach, h.setSResult ..⟩
  case detached =>
    refine ⟨_, exec_attach_detached number s attach, ?_⟩
    split
    · exact h.setSResult ..
    · next released => exact (h.attachAgent attach (by simpa using released)).setSResult ..

/-- Every command keeps the laws of the jobs. -/
theorem exec_jobsSound (i : Instr) (agreed : s.Agreed) (h : s.JobsSound) :
    ∃ t, exec i s = .next t ∧ t.JobsSound := by
  cases hi : movesJobs i
  case false =>
    obtain ⟨t, ht, kept⟩ := exec_jobsKept hi agreed
    exact ⟨t, ht, h.of_kept kept⟩
  case true =>
    cases i <;> cases hi
    case detachClient number => exact exec_detachClient_jobsSound h agreed.offIdle number
    case detachAgent number => exact exec_detachAgent_jobsSound h agreed.offIdle number
    case attach number => exact exec_attach_jobsSound h number
    case softReset => exact ⟨_, rfl, h.released.softReset_jobsSound⟩
    case powerOnReset => exact ⟨_, rfl, s.powerOn_jobsSound _⟩
    case resetAssertion => exact ⟨_, rfl, h.assertLine agreed.offIdle _⟩
    case resetDeassertion => exact ⟨_, rfl, h.deassertLine _⟩
    case waitStep => exact ⟨_, rfl, h.waitStepOp agreed.offIdle⟩
    case holdStep => exact ⟨_, rfl, h.holdStepOp agreed⟩
    case flushStep => exact ⟨_, rfl, h.flushStepOp⟩
    case clientJobFinalStep => exact ⟨_, rfl, h.clientJobFinalOp⟩
    case agentJobFinalStep => exact ⟨_, rfl, h.agentJobFinalOp⟩

end

/-- Settles O54: outside the RE a client stays OFF or DETACHING and is stripped further at most, and each happening of
the RE moves attach states, client states and jobs together. -/
theorem jobsAgreeWithAttachAndClientStates : Obligations.JobsAgreeWithAttachAndClientStates := fun _ _ h ht =>
  of_step ht (h.jobs.of_kept State.clockPeriod_jobsKept) fun i rest =>
    exec_jobsSound i (h.pending rest).agreed (h.pending rest).jobs

end Sys2Proof.Machine
end

section
/-! The claim window (R135, R136), the result word (R164), the writes of AFLAGS (R102, R139), and the undefined
codes of ACMD and SCMD (R129, R149, R150). -/

namespace Sys2Proof.Machine

/-! ### The claim window (R135, R136) -/

/-- A read of CLAIMn takes a TRY EXCLUSIVE of the window client and leaves the result word it wrote in the read
data. -/
theorem exec_claimRead (a : AgentId) (n : LockId) (s : State) :
    let u := s.acquireOp (Origin.claimRead a (s.window a) n) n .exclusive .tryOnce (s.window a).priority
    exec (.claimRead a n) s =
      .next { u with busData := (u.client (clientOf a (s.window a).slot)).result.encode } := rfl

/-- A write of CLAIMn takes a RELEASE of the window client, whatever the data. -/
theorem exec_claimWrite (a : AgentId) (n : LockId) (data : Word) (s : State) :
    exec (.claimWrite a n data) s = .next (s.releaseOp (Origin.claimWrite a (s.window a) n) n) := rfl

/-- The fields of a result word at their bits (R164). -/
theorem ResultWord.encode_toNat (r : ResultWord) :
    r.encode.toNat = r.result.code.toNat * 2 ^ 24 + r.slot * 2 ^ 22 + r.lock * 2 ^ 16 + r.generation.toNat := by
  simp only [ResultWord.encode, toNat_append_fields, slotBits_toNat, lockBits_toNat]
  omega

/-- Settles O5: the window access is an ACQUIRE of the window's origin, and the codes are those of the table. -/
theorem claimReadIsATryByTheWindowClient : Obligations.ClaimReadIsATryByTheWindowClient :=
  ⟨fun a n s => ⟨_, _, exec_claimRead a n s, s.acquireOp_acquireTaken .., rfl⟩, ResultWord.encode_toNat, by decide,
    by decide⟩

/-- Settles O7: the window access is a RELEASE of the window's origin. -/
theorem claimWriteIsAReleaseByTheWindowClient : Obligations.ClaimWriteIsAReleaseByTheWindowClient :=
  fun a n data s => ⟨_, exec_claimWrite a n data s, s.releaseOp_releaseTaken ..⟩

/-! ### AFLAGS (R102, R139) -/

/-- What a word written to AFLAGS leaves of each flag and of the fault record. -/
theorem AgentNotices.writeAflags_eq (r : AgentNotices) (w : Word) :
    r.writeAflags w =
      { r with
        lost := r.lost && !w.getLsbD 0
        lostWarned := r.lostWarned && !w.getLsbD 0
        lostRevoked := r.lostRevoked && !w.getLsbD 0
        fault := r.fault && !w.getLsbD 1
        multi := r.multi && !w.getLsbD 1 && !w.getLsbD 2
        faultRecord := if w.getLsbD 1 = true then none else r.faultRecord } := by
  unfold AgentNotices.writeAflags AgentNotices.clearLost AgentNotices.clearFault
  cases w.getLsbD 0 <;> cases w.getLsbD 1 <;> cases w.getLsbD 2 <;> simp

theorem State.writeAflags_nuChanged (s : State) (a : AgentId) (w : Word) :
    (s.writeAflags a w).NuChanged s a ((s.nu a).writeAflags w) :=
  s.setNu_nuChanged a _

/-- Settles O18: the three commands are one write. -/
theorem aflagsWriteClearsTheFlagsWrittenAsOne : Obligations.AflagsWriteClearsTheFlagsWrittenAsOne := by
  intro a w i s clears
  rw [← AgentNotices.writeAflags_eq]
  rcases clears with rfl | rfl | rfl <;> exact ⟨_, rfl, s.writeAflags_nuChanged a w⟩

/-! ### Undefined codes (R129, R149, R150) -/

/-- Settles O32: each command is an answer or a report and nothing more. -/
theorem undefinedCodesAreAnsweredAndDoNothingElse : Obligations.UndefinedCodesAreAnsweredAndDoNothingElse :=
  fun s =>
    ⟨fun _ _ _ _ => ⟨_, rfl, s.answer_answered ..⟩, fun code _ => ⟨_, rfl, s.setSResult_reported .badCommand code 0⟩⟩

end Sys2Proof.Machine
end

section
/-! The command words of ACMD (R129, R163): a word is the word of its fields. -/

namespace Sys2Proof.Machine

/-! ### Fields of a word as numbers -/

theorem extract_toNat (w : Word) (lo len : Nat) : (w.extractLsb' lo len).toNat = w.toNat / 2 ^ lo % 2 ^ len := by
  rw [BitVec.extractLsb'_toNat, Nat.shiftRight_eq_div_pow]

theorem getLsbD_eq_decide (w : Word) (i : Nat) : w.getLsbD i = decide (w.toNat / 2 ^ i % 2 = 1) :=
  Nat.testBit_eq_decide_div_mod_eq

theorem priorityBits_toNat (p : Priority) : (bits 4 p).toNat = p := bits_toNat_of_lt p.isLt

theorem agentBits_toNat (a : AgentId) : (bits 3 a).toNat = a := bits_toNat_of_lt a.isLt

/-! ### The operand fields of a command word (R163) -/

/-- Bits 4:3, the slot. -/
def slotField (w : Word) : Slot := Fin.ofNat 4 (fieldOf w 3 2)

/-- Bits 10:5, the lock. -/
def lockField (w : Word) : LockId := Fin.ofNat 64 (fieldOf w 5 6)

/-- Bit 11, the mode. -/
def modeField (w : Word) : Mode := if w.getLsbD 11 then .shared else .exclusive

/-- Bit 12, the kind. -/
def kindField (w : Word) : Kind := if w.getLsbD 12 then .wait else .tryOnce

/-- Bits 16:13, the priority. -/
def priorityField (w : Word) : Priority := Fin.ofNat 16 (fieldOf w 13 4)

/-- Bits 7:5, the target of a MAIL. -/
def targetField (w : Word) : AgentId := Fin.ofNat 8 (fieldOf w 5 3)

section
variable (w : Word)

theorem fieldOf_eq (lo len : Nat) : fieldOf w lo len = w.toNat / 2 ^ lo % 2 ^ len :=
  extract_toNat w lo len

theorem slotField_eq_iff (sl : Slot) : slotField w = sl ↔ w.toNat / 2 ^ 3 % 4 = sl := by
  simp [slotField, fieldOf_eq, Fin.ext_iff]

theorem lockField_eq_iff (n : LockId) : lockField w = n ↔ w.toNat / 2 ^ 5 % 64 = n := by
  simp [lockField, fieldOf_eq, Fin.ext_iff]

theorem priorityField_eq_iff (p : Priority) : priorityField w = p ↔ w.toNat / 2 ^ 13 % 16 = p := by
  simp [priorityField, fieldOf_eq, Fin.ext_iff]

theorem targetField_eq_iff (a : AgentId) : targetField w = a ↔ w.toNat / 2 ^ 5 % 8 = a := by
  simp [targetField, fieldOf_eq, Fin.ext_iff]

theorem modeField_eq_iff (m : Mode) : modeField w = m ↔ w.toNat / 2 ^ 11 % 2 = (modeBit m).toNat := by
  rw [modeField, getLsbD_eq_decide, modeBit_toNat]
  cases m <;> simp

theorem kindBit_toNat (k : Kind) : (kindBit k).toNat = if k = .wait then 1 else 0 := by
  cases k <;> rfl

theorem kindField_eq_iff (k : Kind) : kindField w = k ↔ w.toNat / 2 ^ 12 % 2 = (kindBit k).toNat := by
  rw [kindField, getLsbD_eq_decide, kindBit_toNat]
  cases k <;> simp

/-! ### A word is a command's word exactly if its fields are the command's -/

theorem acquireWord_eq_iff (sl : Slot) (n : LockId) (m : Mode) (k : Kind) (p : Priority) (unused : BitVec 15) :
    acquireWord sl n m k p unused = w ↔
      w.extractLsb' 0 3 = opAcquire ∧ slotField w = sl ∧ lockField w = n ∧ modeField w = m ∧ kindField w = k
        ∧ priorityField w = p ∧ w.extractLsb' 17 15 = unused := by
  simp only [← BitVec.toNat_inj, extract_toNat, slotField_eq_iff, lockField_eq_iff, modeField_eq_iff, kindField_eq_iff,
    priorityField_eq_iff, acquireWord, toNat_append_fields, slotBits_toNat, lockBits_toNat,
    priorityBits_toNat]
  omega

theorem lockWord_eq_iff (opcode : BitVec 3) (sl : Slot) (n : LockId) (unused : BitVec 21) :
    lockWord opcode sl n unused = w ↔
      w.extractLsb' 0 3 = opcode ∧ slotField w = sl ∧ lockField w = n ∧ w.extractLsb' 11 21 = unused := by
  simp only [← BitVec.toNat_inj, extract_toNat, slotField_eq_iff, lockField_eq_iff, lockWord, toNat_append_fields,
    slotBits_toNat, lockBits_toNat]
  omega

theorem bareWord_eq_iff (opcode : BitVec 3) (sl : Slot) (unused : BitVec 27) :
    bareWord opcode sl unused = w ↔
      w.extractLsb' 0 3 = opcode ∧ slotField w = sl ∧ w.extractLsb' 5 27 = unused := by
  simp only [← BitVec.toNat_inj, extract_toNat, slotField_eq_iff, bareWord, toNat_append_fields, slotBits_toNat]
  omega

theorem mailWord_eq_iff (sl : Slot) (target : AgentId) (payload : BitVec 16) (unused : BitVec 8) :
    mailWord sl target payload unused = w ↔
      w.extractLsb' 0 3 = opMail ∧ slotField w = sl ∧ targetField w = target ∧ w.extractLsb' 8 16 = payload
        ∧ w.extractLsb' 24 8 = unused := by
  simp only [← BitVec.toNat_inj, extract_toNat, slotField_eq_iff, targetField_eq_iff, mailWord, toNat_append_fields,
    slotBits_toNat, agentBits_toNat]
  omega

end

/-! ### Which command a word is -/

section
variable (a : AgentId) {w : Word}

theorem decodeAcmd_acquire (opcode : w.extractLsb' 0 3 = opAcquire) :
    decodeAcmd a w =
      .acquire a (slotField w) (lockField w) (modeField w) (kindField w) (priorityField w) (w.extractLsb' 17 15) := by
  unfold decodeAcmd
  rw [opcode]
  rfl

theorem decodeAcmd_release (opcode : w.extractLsb' 0 3 = opRelease) :
    decodeAcmd a w = .release a (slotField w) (lockField w) (w.extractLsb' 11 21) := by
  unfold decodeAcmd
  rw [opcode]
  rfl

theorem decodeAcmd_cancel (opcode : w.extractLsb' 0 3 = opCancel) :
    decodeAcmd a w = .cancel a (slotField w) (w.extractLsb' 5 27) := by
  unfold decodeAcmd
  rw [opcode]
  rfl

theorem decodeAcmd_renew (opcode : w.extractLsb' 0 3 = opRenew) :
    decodeAcmd a w = .renew a (slotField w) (lockField w) (w.extractLsb' 11 21) := by
  unfold decodeAcmd
  rw [opcode]
  rfl

theorem decodeAcmd_markClean (opcode : w.extractLsb' 0 3 = opMarkClean) :
    decodeAcmd a w = .markClean a (slotField w) (lockField w) (w.extractLsb' 11 21) := by
  unfold decodeAcmd
  rw [opcode]
  rfl

theorem decodeAcmd_mail (opcode : w.extractLsb' 0 3 = opMail) :
    decodeAcmd a w = .mail a (slotField w) (targetField w) (w.extractLsb' 8 16) (w.extractLsb' 24 8) := by
  unfold decodeAcmd
  rw [opcode]
  rfl

theorem decodeAcmd_badOpcode (opcode : (w.extractLsb' 0 3 == 0 || w.extractLsb' 0 3 == 7) = true) :
    decodeAcmd a w = .badOpcode a (slotField w) (w.extractLsb' 0 3) (w.extractLsb' 5 27) := by
  rw [Bool.or_eq_true, beq_iff_eq, beq_iff_eq] at opcode
  unfold decodeAcmd
  rcases opcode with opcode | opcode <;>
    · rw [opcode]
      rfl

end

/-- The opcodes of R163, and the two that are undefined. -/
theorem opcode_cases (opcode : BitVec 3) :
    opcode = opAcquire ∨ opcode = opRelease ∨ opcode = opCancel ∨ opcode = opRenew ∨ opcode = opMarkClean
      ∨ opcode = opMail ∨ (opcode == 0 || opcode == 7) = true := by
  revert opcode
  decide

/-- A well-formed command of page `a` is what its ACMD word decodes to. -/
theorem decodeAcmd_of_encodeAcmd {i : Instr} {w : Word} (wf : WellFormed i = true) (word : encodeAcmd i = some w) :
    ∃ a, decodeAcmd a w = i := by
  cases i
  case acquire a sl n m k p unused =>
    obtain ⟨opcode, rfl, rfl, rfl, rfl, rfl, rfl⟩ := (acquireWord_eq_iff w ..).1 (Option.some.inj word)
    exact ⟨a, decodeAcmd_acquire a opcode⟩
  case release a sl n unused =>
    obtain ⟨opcode, rfl, rfl, rfl⟩ := (lockWord_eq_iff w ..).1 (Option.some.inj word)
    exact ⟨a, decodeAcmd_release a opcode⟩
  case cancel a sl unused =>
    obtain ⟨opcode, rfl, rfl⟩ := (bareWord_eq_iff w ..).1 (Option.some.inj word)
    exact ⟨a, decodeAcmd_cancel a opcode⟩
  case renew a sl n unused =>
    obtain ⟨opcode, rfl, rfl, rfl⟩ := (lockWord_eq_iff w ..).1 (Option.some.inj word)
    exact ⟨a, decodeAcmd_renew a opcode⟩
  case markClean a sl n unused =>
    obtain ⟨opcode, rfl, rfl, rfl⟩ := (lockWord_eq_iff w ..).1 (Option.some.inj word)
    exact ⟨a, decodeAcmd_markClean a opcode⟩
  case mail a sl target payload unused =>
    obtain ⟨opcode, rfl, rfl, rfl, rfl⟩ := (mailWord_eq_iff w ..).1 (Option.some.inj word)
    exact ⟨a, decodeAcmd_mail a opcode⟩
  case badOpcode a sl opcode unused =>
    obtain ⟨rfl, rfl, rfl⟩ := (bareWord_eq_iff w ..).1 (Option.some.inj word)
    exact ⟨a, decodeAcmd_badOpcode a wf⟩
  all_goals cases word

/-- The command a word decodes to is well formed, and its word is that word. -/
theorem encodeAcmd_decodeAcmd (a : AgentId) (w : Word) :
    WellFormed (decodeAcmd a w) = true ∧ encodeAcmd (decodeAcmd a w) = some w := by
  rcases opcode_cases (w.extractLsb' 0 3) with opcode | opcode | opcode | opcode | opcode | opcode | opcode
  · rw [decodeAcmd_acquire a opcode]
    exact ⟨rfl, congrArg some ((acquireWord_eq_iff w ..).2 ⟨opcode, rfl, rfl, rfl, rfl, rfl, rfl⟩)⟩
  · rw [decodeAcmd_release a opcode]
    exact ⟨rfl, congrArg some ((lockWord_eq_iff w ..).2 ⟨opcode, rfl, rfl, rfl⟩)⟩
  · rw [decodeAcmd_cancel a opcode]
    exact ⟨rfl, congrArg some ((bareWord_eq_iff w ..).2 ⟨opcode, rfl, rfl⟩)⟩
  · rw [decodeAcmd_renew a opcode]
    exact ⟨rfl, congrArg some ((lockWord_eq_iff w ..).2 ⟨opcode, rfl, rfl, rfl⟩)⟩
  · rw [decodeAcmd_markClean a opcode]
    exact ⟨rfl, congrArg some ((lockWord_eq_iff w ..).2 ⟨opcode, rfl, rfl, rfl⟩)⟩
  · rw [decodeAcmd_mail a opcode]
    exact ⟨rfl, congrArg some ((mailWord_eq_iff w ..).2 ⟨opcode, rfl, rfl, rfl, rfl⟩)⟩
  · rw [decodeAcmd_badOpcode a opcode]
    exact ⟨opcode, congrArg some ((bareWord_eq_iff w ..).2 ⟨rfl, rfl, rfl⟩)⟩

/-- Settles O57. -/
theorem acmdWordsAndCommandsCorrespond : Obligations.AcmdWordsAndCommandsCorrespond :=
  ⟨fun _ _ => decodeAcmd_of_encodeAcmd, encodeAcmd_decodeAcmd⟩

end Sys2Proof.Machine
end

section
/-! The register window (R127, R160 to R162) and misused accesses (R128). -/

namespace Sys2Proof.Machine

/-! ### The address of a register -/

theorem AgentReg.offset_lt (r : AgentReg) : r.offset < 0x400 := by
  cases r <;> simp only [AgentReg.offset] <;> omega

theorem ControlReg.offset_lt (r : ControlReg) : r.offset < 0x400 := by
  cases r <;> simp only [ControlReg.offset] <;> omega

/-- Every register of an agent page stands at its offset. -/
theorem agentRegAt_offset (r : AgentReg) : agentRegAt r.offset = some r := by
  cases r
  case claim n =>
    have word : 4 * n.val / 4 = n := Nat.mul_div_cancel_left n.val (by decide)
    simp [agentRegAt, AgentReg.offset, word]
  case result sl => revert sl; decide
  case waitlim sl => revert sl; decide
  case cstat sl => revert sl; decide
  all_goals rfl

/-- Every register of the control page stands at its offset. -/
theorem controlRegAt_offset (r : ControlReg) : controlRegAt r.offset = some r := by
  cases r
  case inspect i => revert i; decide
  case agcfg a => revert a; decide
  all_goals rfl

theorem RegName.address_agent_toNat (a : AgentId) (r : AgentReg) :
    (RegName.agent a r).address.toNat = 0x400 * a + r.offset := by
  have offset := r.offset_lt
  rw [RegName.address, BitVec.toNat_ofNat, Nat.mod_eq_of_lt (by omega)]

theorem RegName.address_control_toNat (r : ControlReg) :
    (RegName.control r).address.toNat = 0x2000 + r.offset := by
  have offset := r.offset_lt
  rw [RegName.address, BitVec.toNat_ofNat, Nat.mod_eq_of_lt (by omega)]

/-- An address in agent page `a`. -/
theorem regAt_agentPage {x : BitVec 14} (a : AgentId) (page : x.toNat / 0x400 = a) :
    regAt x = (agentRegAt (x.toNat % 0x400)).map (.agent a) := by
  have number : Fin.ofNat 8 a.val = a := Fin.ofNat_val_eq_self a
  simp only [regAt, page, a.isLt, if_true, number]

/-- An address in the control page. -/
theorem regAt_controlPage {x : BitVec 14} (page : x.toNat / 0x400 = 8) :
    regAt x = (controlRegAt (x.toNat % 0x400)).map .control := by
  simp [regAt, page]

/-- An address beyond the control page. -/
theorem regAt_beyond {x : BitVec 14} (page : 8 < x.toNat / 0x400) : regAt x = none := by
  rw [regAt, if_neg (by omega), if_neg (by omega)]

/-- Every register is found at its byte address. -/
theorem regAt_address (r : RegName) : regAt r.address = some r := by
  cases r
  case agent a r =>
    have address := RegName.address_agent_toNat a r
    have offset := r.offset_lt
    have within : (RegName.agent a r).address.toNat % 0x400 = r.offset := by omega
    rw [regAt_agentPage a (by omega), within, agentRegAt_offset]
    rfl
  case control r =>
    have address := RegName.address_control_toNat r
    have offset := r.offset_lt
    have within : (RegName.control r).address.toNat % 0x400 = r.offset := by omega
    rw [regAt_controlPage (by omega), within, controlRegAt_offset]
    rfl

/-! ### The undecoded offsets -/

/-- A test that answers a register leaves an offset undecoded when it fails and the rest of the map does. -/
theorem ite_some_eq_none_iff {α : Type} (P : Prop) [Decidable P] (x : α) (e : Option α) :
    (if P then some x else e) = none ↔ ¬ P ∧ e = none := by
  by_cases h : P <;> simp [h]

/-- The undecoded offsets of an agent page (R161). -/
theorem agentRegAt_eq_none_iff {offset : Nat} (aligned : offset % 4 = 0) :
    agentRegAt offset = none ↔ (0x104 ≤ offset ∧ offset ≤ 0x10C) ∨ offset = 0x15C ∨ 0x168 ≤ offset := by
  simp only [agentRegAt, ite_some_eq_none_iff, and_true]
  omega

/-- The undecoded offsets of the control page (R162). -/
theorem controlRegAt_eq_none_iff {offset : Nat} (aligned : offset % 4 = 0) :
    controlRegAt offset = none ↔
      (0x38 ≤ offset ∧ offset ≤ 0x3C) ∨ (0x68 ≤ offset ∧ offset ≤ 0x6C) ∨ 0x7C ≤ offset := by
  simp only [controlRegAt, ite_some_eq_none_iff, and_true]
  omega

/-- Settles O59: by the page of the address. -/
theorem registersStandAtTheirAddresses : Obligations.RegistersStandAtTheirAddresses := by
  refine ⟨regAt_address, fun x aligned => ?_⟩
  have within : x.toNat % 0x400 % 4 = 0 := by omega
  rcases lt_trichotomy (x.toNat / 0x400) 8 with page | page | page
  · rw [regAt_agentPage ⟨x.toNat / 0x400, page⟩ rfl, Option.map_eq_none_iff, agentRegAt_eq_none_iff within]
    omega
  · rw [regAt_controlPage page, Option.map_eq_none_iff, controlRegAt_eq_none_iff within]
    omega
  · simp only [regAt_beyond page, true_iff]
    omega

/-! ### Which accesses are misuse (R128) -/

theorem isMisuse_iff (acc : BusAccess) : isMisuse acc = true ↔ acc.size ≠ .word ∨ regAt acc.address = none := by
  simp [isMisuse]

theorem decodeAccess_of_misuse {acc : BusAccess} (misuse : isMisuse acc = true) :
    decodeAccess acc = some (.accessMisuse acc) :=
  if_pos misuse

section
variable {x : BitVec 14}

theorem not_isMisuse_of_regAt {r : RegName} (reg : regAt x = some r) (write : Option Word) :
    ¬ isMisuse ⟨x, .word, write⟩ = true := by
  rw [isMisuse_iff]
  simp [reg]

/-- A word read where a register stands. -/
theorem decodeAccess_read {r : RegName} (reg : regAt x = some r) :
    decodeAccess ⟨x, .word, none⟩ = decodeRead r := by
  rw [decodeAccess, if_neg (not_isMisuse_of_regAt reg none)]
  simp only [reg]

/-- A word write where a register of an agent page stands. -/
theorem decodeAccess_write_agent {a : AgentId} {r : AgentReg} (reg : regAt x = some (.agent a r)) (w : Word) :
    decodeAccess ⟨x, .word, some w⟩ = decodeAgentWrite a w r := by
  rw [decodeAccess, if_neg (not_isMisuse_of_regAt reg (some w))]
  simp only [reg]

/-- A word write where a register of the control page stands. -/
theorem decodeAccess_write_control {r : ControlReg} (reg : regAt x = some (.control r)) (w : Word) :
    decodeAccess ⟨x, .word, some w⟩ = decodeControlWrite w r := by
  rw [decodeAccess, if_neg (not_isMisuse_of_regAt reg (some w))]
  simp only [reg]

end

/-- No register's read is misuse. -/
theorem decodeRead_ne_misuse (r : RegName) (acc : BusAccess) : decodeRead r ≠ some (.accessMisuse acc) := by
  unfold decodeRead
  split <;> exact nofun

theorem decodeAcmd_ne_misuse (a : AgentId) (w : Word) (acc : BusAccess) : decodeAcmd a w ≠ .accessMisuse acc := by
  intro misuse
  have word := (encodeAcmd_decodeAcmd a w).2
  rw [misuse] at word
  cases word

/-- No write of a register of an agent page is misuse. -/
theorem decodeAgentWrite_ne_misuse (a : AgentId) (w : Word) (r : AgentReg) (acc : BusAccess) :
    decodeAgentWrite a w r ≠ some (.accessMisuse acc) := by
  cases r
  case acmd => exact fun misuse => decodeAcmd_ne_misuse a w acc (Option.some.inj misuse)
  case aflags =>
    show decodeAflags a w ≠ _
    unfold decodeAflags
    split_ifs <;> exact nofun
  all_goals exact nofun

/-- No write of a register of the control page is misuse. -/
theorem decodeControlWrite_ne_misuse (w : Word) (r : ControlReg) (acc : BusAccess) :
    decodeControlWrite w r ≠ some (.accessMisuse acc) := by
  cases r
  case scmd =>
    show some (decodeScmd w) ≠ _
    unfold decodeScmd
    dsimp only
    split_ifs <;> exact nofun
  case sflags =>
    show decodeSflags w ≠ _
    unfold decodeSflags
    split_ifs <;> exact nofun
  all_goals exact nofun

theorem decodeAccess_eq_misuse_iff (acc : BusAccess) :
    decodeAccess acc = some (.accessMisuse acc) ↔ acc.size ≠ .word ∨ regAt acc.address = none := by
  rw [← isMisuse_iff]
  refine ⟨fun decoded => ?_, decodeAccess_of_misuse⟩
  by_contra proper
  rw [isMisuse_iff, not_or, not_not, ← ne_eq, Option.ne_none_iff_exists'] at proper
  obtain ⟨word, r, reg⟩ := proper
  obtain ⟨x, size, write⟩ := acc
  cases word
  cases write
  case none => exact decodeRead_ne_misuse r _ (decodeAccess_read reg ▸ decoded)
  case some w =>
    cases r
    case agent a r => exact decodeAgentWrite_ne_misuse a w r _ (decodeAccess_write_agent reg w ▸ decoded)
    case control r => exact decodeControlWrite_ne_misuse w r _ (decodeAccess_write_control reg w ▸ decoded)

/-! ### What misuse does, and which writes are ignored -/

/-- Misuse sets ACCESS_ERR, a misused read returns 0, and nothing else changes. -/
theorem exec_accessMisuse (acc : BusAccess) (s : State) :
    exec (.accessMisuse acc) s =
      .next { s with
        busData := if acc.write = none then 0 else s.busData
        su := { s.su with flags := { s.su.flags with accessErr := true } } } := by
  cases write : acc.write
  case none => exact exec_accessMisuse_read write s
  case some w =>
    show execAccessMisuse acc s = _
    rw [execAccessMisuse, write]
    rfl

/-- Settles O19. -/
theorem misusedAccessesOnlySetAccessErr : Obligations.MisusedAccessesOnlySetAccessErr := by
  refine ⟨fun acc _ => decodeAccess_eq_misuse_iff acc, fun acc s => ⟨_, exec_accessMisuse acc s, rfl⟩,
    ⟨fun a r readOnly w => ?_, fun r readOnly w => ?_⟩, fun _ _ _ => rfl,
    fun a _ => ⟨rfl, decodeAccess_read (regAt_address (.agent a .acmd))⟩⟩
  · simp only [List.mem_cons, List.not_mem_nil, or_false] at readOnly
    rw [decodeAccess_write_agent (regAt_address (.agent a r))]
    rcases readOnly with (rfl | rfl | rfl | rfl | rfl) | ⟨sl, rfl | rfl⟩ <;> exact ⟨_, rfl⟩
  · simp only [List.mem_cons, List.not_mem_nil, or_false] at readOnly
    rw [decodeAccess_write_control (regAt_address (.control r))]
    rcases readOnly with (rfl | rfl | rfl | rfl | rfl | rfl) | ⟨i, rfl⟩ <;> exact ⟨_, rfl⟩

end Sys2Proof.Machine
end

section
/-! The queue of waiting commands (log 1): every command answers a next state and leaves the queue alone. -/

namespace Sys2Proof.Machine

/-! ### The procedures -/

section
variable (s : State)

@[simp] theorem State.grantEval_pending (n : LockId) : (s.grantEval n).pending = s.pending :=
  (s.grantEval_frame n).pending

theorem State.foldl_pending {α : Type} {f : State → α → State} (h : ∀ s x, (f s x).pending = s.pending) (l : List α)
    (s : State) : (l.foldl f s).pending = s.pending := by
  induction l generalizing s with
  | nil => rfl
  | cons x l ih => exact (ih _).trans (h s x)

theorem State.WaitEnded.pending {u s : State} {c : ClientId} {n : LockId} {st : ClientState} {e : WaitEnd}
    {notice : Option Notice} (h : u.WaitEnded s c n st e notice) : u.pending = s.pending := by
  obtain ⟨-, -, -, -, -, -, -, frame⟩ := h
  rw [frame]

@[simp] theorem State.endWaitReported_pending (c : ClientId) (n : LockId) (e : WaitEnd) (x : WaitEndReason) :
    (s.endWaitReported c n e x).pending = s.pending :=
  (s.endWaitReported_waitEnded c n e x).pending

@[simp] theorem State.cancelWait_pending (c : ClientId) (n : LockId) : (s.cancelWait c n).pending = s.pending :=
  (s.cancelWait_waitEnded c n).pending

theorem State.NoticePassed.pending {u s : State} {x : Hold} {revoked : Bool} (h : u.NoticePassed s x revoked) :
    u.pending = s.pending := by
  obtain ⟨-, -, frame⟩ := h
  rw [frame]

@[simp] theorem State.createHold_pending (c : ClientId) (n : LockId) (m : Mode) :
    (s.createHold c n m).pending = s.pending := rfl

@[simp] theorem State.enqueue_pending (c : ClientId) (n : LockId) (m : Mode) (p : Priority) :
    (s.enqueue c n m p).pending = s.pending := rfl

@[simp] theorem State.removeHold_pending (x : Hold) (alone : LockState) :
    (s.removeHold x alone).pending = s.pending := rfl

@[simp] theorem State.updateHold_pending (c : ClientId) (n : LockId) (f : Hold → Hold) :
    (s.updateHold c n f).pending = s.pending := rfl

@[simp] theorem State.revoke_pending (x : Hold) : (s.revoke x).pending = s.pending :=
  (State.grantEval_pending _ x.lock).trans
    (State.passUnreserved_noticePassed ((s.removeHold x .orphaned).setRevoked x.client x.lock true) x true).pending

@[simp] theorem State.makeDead_pending (c : ClientId) (n : LockId) : (s.makeDead c n).pending = s.pending :=
  State.foldl_pending (fun u d => u.endWaitReported_pending d n .flushed .dead) _ _

@[simp] theorem State.setSlotStates_pending (a : AgentId) (slots : List Slot) (st : ClientState) :
    (s.setSlotStates a slots st).pending = s.pending := by
  rw [(s.setSlotStates_spec a slots st).2]

@[simp] theorem State.attachAgent_pending (a : AgentId) : (s.attachAgent a).pending = s.pending :=
  State.setSlotStates_pending _ a allSlots .ready

@[simp] theorem State.detachRequest_pending (a : AgentId) (named : SlotSet) (scope : Scope) :
    (s.detachRequest a named scope).pending = s.pending := by
  obtain ⟨set, u, -, ⟨-, -, -, -, made⟩, placed, -⟩ := s.detachRequest_requested a named scope
  rw [placed]
  exact (State.foldl_pending State.grantEval_pending _ u).trans (by rw [made])

@[simp] theorem State.endJob_pending : s.endJob.pending = s.pending := by
  obtain ⟨frame, -⟩ := s.endJob_jobEnded
  rw [frame]

/-! ### The commands of clients -/

@[simp] theorem State.acquireOp_pending (o : Origin) (n : LockId) (m : Mode) (k : Kind) (p : Priority) :
    (s.acquireOp o n m k p).pending = s.pending := by
  unfold State.acquireOp
  split <;> simp

@[simp] theorem State.releaseOp_pending (o : Origin) (n : LockId) : (s.releaseOp o n).pending = s.pending := by
  unfold State.releaseOp
  split
  · simp
  · split <;> split <;> simp

@[simp] theorem State.markCleanOp_pending (o : Origin) (n : LockId) : (s.markCleanOp o n).pending = s.pending := by
  unfold State.markCleanOp
  split
  · simp
  · split <;> split <;> simp

@[simp] theorem State.cancelOp_pending (o : Origin) : (s.cancelOp o).pending = s.pending := by
  unfold State.cancelOp
  split
  · simp
  · simp
  · split <;> simp
  · split <;> simp

@[simp] theorem State.renewOp_pending (o : Origin) (n : LockId) : (s.renewOp o n).pending = s.pending := by
  unfold State.renewOp
  split
  · simp
  · split <;> split <;> simp

@[simp] theorem State.mailOp_pending (o : Origin) (target : AgentId) (payload : BitVec 16) :
    (s.mailOp o target payload).pending = s.pending := by
  unfold State.mailOp
  split_ifs <;> simp

/-! ### The happenings of the part -/

@[simp] theorem State.warnHold_pending (x : Hold) (countdown : Countdown) (phase : Phase) :
    (s.warnHold x countdown phase).pending = s.pending :=
  (s.passUnreserved_noticePassed x false).pending

theorem State.expireHold_pending (x : Hold) : (s.expireHold x).pending = s.pending := by
  unfold State.expireHold
  split
  · simp
  · split
    · simp
    · simp
    · split <;> simp

@[simp] theorem State.holdExpiryOp_pending (c : ClientId) (n : LockId) : (s.holdExpiryOp c n).pending = s.pending := by
  unfold State.holdExpiryOp
  split
  · rfl
  · next x _ =>
    split
    · exact s.expireHold_pending x
    · rfl

@[simp] theorem State.waitExpiryOp_pending (c : ClientId) : (s.waitExpiryOp c).pending = s.pending := by
  unfold State.waitExpiryOp
  split
  · rfl
  · split <;> simp

@[simp] theorem State.tick_pending : s.tick.pending = s.pending := by
  simp [State.tick]

@[simp] theorem State.assertLine_pending (a : AgentId) : (s.assertLine a).pending = s.pending := by
  unfold State.assertLine
  split
  · rfl
  · dsimp only
    split <;> simp

@[simp] theorem State.deassertLine_pending (a : AgentId) : (s.deassertLine a).pending = s.pending := by
  unfold State.deassertLine
  split
  · rfl
  · dsimp only
    split <;> simp

@[simp] theorem State.sweepStepOp_pending : s.sweepStepOp.pending = s.pending := by
  have swept : (s.sweepLock s.su.sweep.position).pending = s.pending := by
    unfold State.sweepLock
    split <;> simp
  unfold State.sweepStepOp
  split
  · dsimp only
    split <;> simp [swept]
  · rfl

@[simp] theorem State.reclaimWait_pending (c : ClientId) : (s.reclaimWait c).pending = s.pending := by
  unfold State.reclaimWait
  split <;> simp

@[simp] theorem State.waitStepOp_pending : s.waitStepOp.pending = s.pending := by
  unfold State.waitStepOp
  split <;> simp

@[simp] theorem State.holdStepOp_pending : s.holdStepOp.pending = s.pending := by
  unfold State.holdStepOp
  split
  · split
    · rfl
    · exact State.grantEval_pending ..
  · rfl

@[simp] theorem State.flushStepOp_pending : s.flushStepOp.pending = s.pending := by
  unfold State.flushStepOp
  split <;> rfl

@[simp] theorem State.endClientJob_pending (j : Job) : (s.endClientJob j).pending = s.pending := by
  unfold State.endClientJob
  split
  · exact State.foldl_pending (f := fun u sl => u.returnClient (clientOf j.agent sl)) (fun _ _ => rfl) _ s
  · rfl
  · rfl

@[simp] theorem State.clientJobFinalOp_pending : s.clientJobFinalOp.pending = s.pending := by
  unfold State.clientJobFinalOp
  split
  · split <;> simp
  · rfl

@[simp] theorem State.endAgentJob_pending (a : AgentId) : (s.endAgentJob a).pending = s.pending := by
  have off : (allSlots.foldl (fun s sl => s.turnOffClient (clientOf a sl)) s).pending = s.pending :=
    State.foldl_pending (f := fun u sl => u.turnOffClient (clientOf a sl)) (fun _ _ => rfl) allSlots s
  unfold State.endAgentJob
  dsimp only
  split <;> simp [off]

@[simp] theorem State.agentJobFinalOp_pending : s.agentJobFinalOp.pending = s.pending := by
  unfold State.agentJobFinalOp
  split
  · split <;> simp
  · rfl

/-! ### The commands of the supervisor and the register writes -/

theorem State.writePlain_pending (r : PlainReg) (w : Word) : (s.writePlain r w).pending = s.pending := by
  cases r <;> rfl

theorem exec_detachClient_pending (number : Fin 64) :
    ∃ t, exec (.detachClient number) s = .next t ∧ t.pending = s.pending := by
  refine ⟨_, rfl, ?_⟩
  split <;> simp

theorem exec_detachAgent_pending (number : Fin 64) :
    ∃ t, exec (.detachAgent number) s = .next t ∧ t.pending = s.pending := by
  refine ⟨_, rfl, ?_⟩
  split <;> simp

theorem exec_attach_pending (number : Fin 64) :
    ∃ t, exec (.attach number) s = .next t ∧ t.pending = s.pending := by
  refine ⟨_, rfl, ?_⟩
  split
  · simp
  · simp
  · split <;> simp

theorem State.softReset_pending : s.softReset.pending = s.pending := by
  simp [State.softReset]

end

/-- Settles O3: the operation of each command keeps the queue, and no command has another answer. -/
theorem everyCommandCompletesAndLeavesTheQueue : Obligations.EveryCommandCompletesAndLeavesTheQueue := by
  intro i s
  cases i
  case acquire => exact ⟨_, rfl, s.acquireOp_pending ..⟩
  case release => exact ⟨_, rfl, s.releaseOp_pending ..⟩
  case cancel => exact ⟨_, rfl, s.cancelOp_pending _⟩
  case renew => exact ⟨_, rfl, s.renewOp_pending ..⟩
  case markClean => exact ⟨_, rfl, s.markCleanOp_pending ..⟩
  case mail => exact ⟨_, rfl, s.mailOp_pending ..⟩
  case badOpcode => exact ⟨_, rfl, s.answer_pending ..⟩
  case claimRead a n => exact ⟨_, exec_claimRead a n s, s.acquireOp_pending ..⟩
  case claimWrite a n data => exact ⟨_, exec_claimWrite a n data s, s.releaseOp_pending ..⟩
  case accessMisuse acc => exact ⟨_, exec_accessMisuse acc s, rfl⟩
  case registerWrite => exact ⟨_, rfl, s.writePlain_pending ..⟩
  case setcfg n => exact ⟨_, exec_setcfg n s, rfl⟩
  case online n => exact ⟨_, exec_online n s, rfl⟩
  case offline n => exact ⟨_, exec_offline n s, rfl⟩
  case restore n => exact ⟨_, exec_restore n s, rfl⟩
  case detachClient number => exact exec_detachClient_pending s number
  case detachAgent number => exact exec_detachAgent_pending s number
  case attach number => exact exec_attach_pending s number
  case softReset => exact ⟨_, rfl, s.softReset_pending⟩
  case resetAssertion => exact ⟨_, rfl, s.assertLine_pending _⟩
  case resetDeassertion => exact ⟨_, rfl, s.deassertLine_pending _⟩
  case tick =>
    refine ⟨_, exec_tick s, ?_⟩
    split <;> simp
  case holdExpiry => exact ⟨_, rfl, s.holdExpiryOp_pending ..⟩
  case waitExpiry => exact ⟨_, rfl, s.waitExpiryOp_pending _⟩
  case sweepStep => exact ⟨_, rfl, s.sweepStepOp_pending⟩
  case waitStep => exact ⟨_, rfl, s.waitStepOp_pending⟩
  case holdStep => exact ⟨_, rfl, s.holdStepOp_pending⟩
  case flushStep => exact ⟨_, rfl, s.flushStepOp_pending⟩
  case clientJobFinalStep => exact ⟨_, rfl, s.clientJobFinalOp_pending⟩
  case agentJobFinalStep => exact ⟨_, rfl, s.agentJobFinalOp_pending⟩
  all_goals exact ⟨_, rfl, rfl⟩

end Sys2Proof.Machine
end

section
/-! The words the registers read (R131, R132, R157, R161, R162, R166 to R169): each is the number of its fields. -/

namespace Sys2Proof.Machine

/-- A read that returns a word returns its number. -/
theorem some_word_eq {w : Word} {n : Nat} (h : w.toNat = n) : some w = some (BitVec.ofNat 32 n) :=
  congrArg some (word_eq_ofNat h)

/-! ### The agent page (R161, R166) -/

section
variable (s : State) (a : AgentId)

theorem waitlimWord_toNat (limit : BitVec 16) : (bits 16 0 ++ limit : Word).toNat = limit.toNat := by
  rw [toNat_append_fields, bits_zero_toNat, Nat.zero_mul, Nat.zero_add]

theorem State.nqstatWord_toNat :
    (s.nqstatWord a).toNat =
      (s.nu a).lostRevoked.toNat * 2 ^ 17 + (s.nu a).lostWarned.toNat * 2 ^ 16 + (s.nu a).reserved % 8 * 2 ^ 8
        + (s.nu a).queue.length % 32 := by
  simp only [State.nqstatWord, toNat_append_fields, bits_toNat, flag_toNat]
  omega

theorem State.aflagsWord_toNat :
    (s.aflagsWord a).toNat = (s.nu a).multi.toNat * 4 + (s.nu a).fault.toNat * 2 + (s.nu a).lost.toNat := by
  simp only [State.aflagsWord, toNat_append_fields, bits_zero_toNat, flag_toNat]
  omega

theorem State.aenWord_toNat :
    (s.aenWord a).toNat = (s.nu a).faultEn.toNat * 4 + (s.nu a).lostEn.toNat * 2 + (s.nu a).noticeEn.toNat := by
  simp only [State.aenWord, toNat_append_fields, bits_zero_toNat, flag_toNat]
  omega

/-- The fault code of FAULTREC is the result code less 80H (R167). -/
theorem Result.faultCode_toNat {r : Result} (fault : r.isFault = true) :
    (r.code.extractLsb' 0 4).toNat = r.code.toNat - 0x80 := by
  revert fault
  cases r <;> decide

theorem encodeFaultRecord_some_toNat {r : FaultRecord} (fault : r.fault.isFault = true) :
    (encodeFaultRecord (some r)).toNat =
      (r.fault.code.toNat - 0x80) * 2 ^ 28 + r.window.toNat * 2 ^ 24 + r.command.toNat := by
  simp only [encodeFaultRecord, toNat_append_fields, bits_zero_toNat, flag_toNat, Result.faultCode_toNat fault]
  omega

theorem State.wincfgWord_toNat :
    (s.wincfgWord a).toNat = (s.window a).priority * 2 ^ 8 + (s.window a).slot := by
  simp only [State.wincfgWord, toNat_append_fields, bits_zero_toNat, priorityBits_toNat, slotBits_toNat]
  omega

theorem State.ainfoWord_toNat :
    (s.ainfoWord a).toNat =
      (s.agentConfig a).mask.toNat * 2 ^ 8 + (s.line a).attach.code.toNat * 2 ^ 4 + a := by
  simp only [State.ainfoWord, toNat_append_fields, bits_zero_toNat, agentBits_toNat]
  omega

end

/-! ### The control page (R162, R167, R168, R169) -/

section
variable (s : State)

theorem SResult.encode_toNat (r : SResult) :
    r.encode.toNat = r.number * 2 ^ 16 + r.command.toNat * 2 ^ 8 + r.result.code.toNat := by
  simp only [SResult.encode, toNat_append_fields, bits_zero_toNat, lockBits_toNat]
  omega

theorem cfgAWord_toNat (ceiling : Priority) (domain : Domain) (sharedOk renewable : Bool) (action : BitVec 2) :
    (bits 8 0 ++ encodeCfgA ceiling domain sharedOk renewable action : Word).toNat =
      action.toNat * 2 ^ 12 + renewable.toNat * 2 ^ 9 + sharedOk.toNat * 2 ^ 8 + domain * 2 ^ 4 + ceiling := by
  simp only [encodeCfgA, toNat_append_fields, bits_zero_toNat, flag_toNat, slotBits_toNat, priorityBits_toNat]
  omega

theorem State.sweepstatWord_toNat :
    s.sweepstatWord.toNat =
      s.su.sweep.again.toNat * 2 ^ 16 + s.su.sweep.position * 2 ^ 8 + s.su.sweep.running.toNat := by
  simp only [State.sweepstatWord, toNat_append_fields, bits_zero_toNat, flag_toNat, lockBits_toNat]
  omega

theorem State.tbctrlWord_toNat : s.tbctrlWord.toNat = s.tb.prescale.toNat * 2 ^ 16 + s.tb.run.toNat := by
  simp only [State.tbctrlWord, toNat_append_fields, bits_zero_toNat, flag_toNat]
  omega

/-- The free count fits its field, since the pool has 96 records (R30). -/
theorem State.freeCount_le (s : State) : s.freeCount ≤ 96 :=
  Nat.sub_le 96 s.pool.length

theorem State.poolstatWord_toNat : s.poolstatWord.toNat = s.su.poolLowThreshold * 2 ^ 16 + s.freeCount := by
  have threshold : (bits 7 s.su.poolLowThreshold).toNat = s.su.poolLowThreshold := bits_toNat_of_lt (by omega)
  have count : (bits 7 s.freeCount).toNat = s.freeCount := bits_toNat_of_lt (by have := s.freeCount_le; omega)
  simp only [State.poolstatWord, toNat_append_fields, bits_zero_toNat, threshold, count]
  omega

/-- JOBSTAT shows the WAITING jobs above the half of the ACTIVE job. -/
theorem jobstatWord_toNat (waiting : Nat) (active : BitVec 16) :
    (bits 12 0 ++ bits 4 waiting ++ active : Word).toNat = waiting % 16 * 2 ^ 16 + active.toNat := by
  simp only [toNat_append_fields, bits_toNat]
  omega

theorem State.jobstatWord_of_idle (idle : s.activeJob = none) :
    s.jobstatWord.toNat = s.waitingJobs.length % 16 * 2 ^ 16 := by
  rw [State.jobstatWord, idle]
  exact (jobstatWord_toNat ..).trans (Nat.add_zero _)

theorem encodeSlots_toNat (set : SlotSet) :
    (encodeSlots set).toNat =
      (set.get 3).toNat * 2 ^ 3 + (set.get 2).toNat * 2 ^ 2 + (set.get 1).toNat * 2 + (set.get 0).toNat := by
  simp only [encodeSlots, toNat_append_fields, flag_toNat]
  omega

theorem State.jobstatWord_of_active {x : ActiveJob} (active : s.activeJob = some x) :
    s.jobstatWord.toNat =
      s.waitingJobs.length % 16 * 2 ^ 16 + 2 ^ 15 + (x.job.set.get 3).toNat * 2 ^ 7
        + (x.job.set.get 2).toNat * 2 ^ 6 + (x.job.set.get 1).toNat * 2 ^ 5 + (x.job.set.get 0).toNat * 2 ^ 4
        + x.job.agent := by
  rw [State.jobstatWord, active]
  refine (jobstatWord_toNat ..).trans ?_
  simp only [toNat_append_fields, bits_zero_toNat, flag_toNat, encodeSlots_toNat, agentBits_toNat, Bool.toNat_true]
  omega

theorem State.agcfgWord_toNat (a : AgentId) :
    (s.agcfgWord a).toNat = (s.agentConfig a).autoAttach.toNat * 2 ^ 8 + (s.agentConfig a).mask.toNat := by
  simp only [State.agcfgWord, toNat_append_fields, bits_zero_toNat, flag_toNat]
  omega

theorem encodeSupFlags_toNat (f : SupFlags) (poolLow : Bool) :
    (encodeSupFlags f poolLow).toNat =
      poolLow.toNat * 2 ^ 8 + f.sweepDone.toNat * 16 + f.jobDone.toNat * 8 + f.lockDead.toNat * 4
        + f.denial.toNat * 2 + f.accessErr.toNat := by
  simp only [encodeSupFlags, toNat_append_fields, bits_zero_toNat, flag_toNat]
  omega

theorem encodeDenialRecord_some_toNat (r : DenialRecord) :
    (encodeDenialRecord (some r)).toNat =
      2 ^ 31 + r.domain * 2 ^ 16 + r.lock * 2 ^ 8 + r.slot * 2 ^ 4 + r.agent := by
  simp only [encodeDenialRecord, toNat_append_fields, bits_zero_toNat, flag_toNat, Bool.toNat_true,
    lockBits_toNat, slotBits_toNat, agentBits_toNat]
  omega

/-! ### The fields of the eight agents in AGSTATE and LINESTAT -/

/-- The attach state of each agent stands at its two bits. -/
theorem State.agstateWord_agent (a : AgentId) :
    s.agstateWord.extractLsb' (2 * a.val) 2 = (s.line a).attach.code := by
  rw [← BitVec.toNat_inj, extract_toNat]
  simp only [State.agstateWord, toNat_append_fields, bits_zero_toNat]
  fin_cases a <;> simp <;> omega

theorem State.agstateWord_above : s.agstateWord.extractLsb' 16 16 = 0 := by
  rw [← BitVec.toNat_inj, extract_toNat]
  simp only [State.agstateWord, toNat_append_fields, bits_zero_toNat]
  show _ = 0
  omega

theorem getLsbD_eq_iff (w : Word) (i : Nat) (b : Bool) : w.getLsbD i = b ↔ w.toNat / 2 ^ i % 2 = (flag b).toNat := by
  rw [getLsbD_eq_decide, flag_toNat]
  cases b <;> simp

/-- The level of each agent stands at its bit. -/
theorem State.linestatWord_agent (a : AgentId) : s.linestatWord.getLsbD a = (s.line a).asserted := by
  rw [getLsbD_eq_iff]
  simp only [State.linestatWord, toNat_append_fields, bits_zero_toNat]
  fin_cases a <;> simp [-flag_toNat] <;> omega

theorem State.linestatWord_above : s.linestatWord.extractLsb' 8 24 = 0 := by
  rw [← BitVec.toNat_inj, extract_toNat]
  simp only [State.linestatWord, toNat_append_fields, bits_zero_toNat]
  show _ = 0
  omega

end

/-- Settles O60: register by register, each read is the number of its word. -/
theorem registersReadTheirFields : Obligations.RegistersReadTheirFields := by
  refine ⟨fun s a => ?_, fun s => ?_, by decide, by decide, by decide, by decide, by decide, rfl, rfl⟩
  · exact ⟨fun sl => ⟨rfl, some_word_eq (waitlimWord_toNat _)⟩, rfl, some_word_eq (s.nqstatWord_toNat a),
      s.readReg_nqcfg a, some_word_eq (s.aflagsWord_toNat a), some_word_eq (s.aenWord_toNat a),
      fun empty => congrArg (fun r => some (encodeFaultRecord r)) empty,
      fun r full fault => (congrArg (fun r => some (encodeFaultRecord r)) full).trans
        (some_word_eq (encodeFaultRecord_some_toNat fault)),
      some_word_eq (s.wincfgWord_toNat a), some_word_eq (s.ainfoWord_toNat a)⟩
  · exact ⟨rfl, some_word_eq s.su.sresult.encode_toNat, some_word_eq (cfgAWord_toNat ..),
      some_word_eq (toNat_append_fields ..), fun _ => rfl, rfl, some_word_eq s.sweepstatWord_toNat,
      some_word_eq s.tbctrlWord_toNat, some_word_eq rfl, some_word_eq s.poolstatWord_toNat,
      fun idle => some_word_eq (s.jobstatWord_of_idle idle),
      fun _ active => some_word_eq (s.jobstatWord_of_active active), fun a => some_word_eq (s.agcfgWord_toNat a),
      s.agstateWord_agent, s.agstateWord_above, s.linestatWord_agent, s.linestatWord_above,
      some_word_eq (encodeSupFlags_toNat ..), some_word_eq (encodeSupFlags_toNat ..),
      fun empty => congrArg (fun r => some (encodeDenialRecord r)) empty,
      fun r full => (congrArg (fun r => some (encodeDenialRecord r)) full).trans
        (some_word_eq (encodeDenialRecord_some_toNat r))⟩

end Sys2Proof.Machine
end

section
/-! The interrupt outputs (R140, R143) and the writes of SFLAGS (R144, R147). -/

namespace Sys2Proof.Machine

/-! ### The interrupt outputs -/

/-- The NOTICE cause is a level (R105). -/
theorem State.noticeCause_iff (s : State) (a : AgentId) :
    s.noticeCause a = true ↔ (s.nu a).threshold.val ≤ (s.nu a).queue.length :=
  decide_eq_true_iff

/-- The POOL_LOW cause is a level (R33). -/
theorem State.poolLow_iff (s : State) : s.poolLow = true ↔ s.freeCount < s.su.poolLowThreshold.val :=
  decide_eq_true_iff

/-- Settles O46: each output is the disjunction of its causes, each with its enable, and the two levels are
comparisons. -/
theorem interruptOutputsFollowEnabledCauses : Obligations.InterruptOutputsFollowEnabledCauses := by
  refine fun s => ⟨fun a => ?_, ?_⟩
  · simp only [State.agentInterrupt, Bool.or_eq_true, Bool.and_eq_true, s.noticeCause_iff, or_assoc]
  · simp only [State.supervisorInterrupt, Bool.or_eq_true, Bool.and_eq_true, s.poolLow_iff, or_assoc]

/-! ### SFLAGS -/

/-- What a word written to SFLAGS leaves of the five flags and of the denial record. -/
theorem State.writeSflags_eq (s : State) (w : Word) :
    s.writeSflags w =
      { s with su := { s.su with
          flags :=
            { accessErr := s.su.flags.accessErr && !w.getLsbD 0
              denial := s.su.flags.denial && !w.getLsbD 1
              lockDead := s.su.flags.lockDead && !w.getLsbD 2
              jobDone := s.su.flags.jobDone && !w.getLsbD 3
              sweepDone := s.su.flags.sweepDone && !w.getLsbD 4 }
          denialRecord := if w.getLsbD 1 = true then none else s.su.denialRecord } } := rfl

/-- Settles O24: the five commands are one write. -/
theorem sflagsWriteClearsTheFlagsWrittenAsOne : Obligations.SflagsWriteClearsTheFlagsWrittenAsOne := by
  intro w i s clears
  rw [← s.writeSflags_eq]
  rcases clears with rfl | rfl | rfl | rfl | rfl <;> rfl

end Sys2Proof.Machine
end

section
/-! The state of the SU: the procedures of the other blocks leave it alone. -/

namespace Sys2Proof.Machine

theorem State.foldl_su {α : Type} {f : State → α → State} (h : ∀ s x, (f s x).su = s.su) (l : List α) (s : State) :
    (l.foldl f s).su = s.su :=
  List.foldlRecOn (motive := fun u => u.su = s.su) l f rfl fun u kept x _ => (h u x).trans kept

@[simp] theorem State.grantEval_su (s : State) (n : LockId) : (s.grantEval n).su = s.su := (s.grantEval_frame n).su

section
variable {s t : State}

/-! ### What the laws of waits, notices, attaching and detach requests leave of the SU -/

theorem State.WaitEnded.su {c : ClientId} {n : LockId} {st : ClientState} {e : WaitEnd} {notice : Option Notice}
    (h : t.WaitEnded s c n st e notice) : t.su = s.su := by
  obtain ⟨-, -, -, -, -, -, -, frame⟩ := h
  rw [frame]

theorem State.NoticePassed.su {x : Hold} {revoked : Bool} (h : t.NoticePassed s x revoked) : t.su = s.su := by
  obtain ⟨-, -, frame⟩ := h
  rw [frame]

theorem State.Attached.su {a : AgentId} (h : t.Attached s a) : t.su = s.su := by
  obtain ⟨-, -, -, frame⟩ := h
  rw [frame]

theorem State.MadeDetaching.su {a : AgentId} {set : SlotSet} {scope : Scope} (h : t.MadeDetaching s a set scope) :
    t.su = s.su := by
  obtain ⟨-, -, -, -, frame⟩ := h
  rw [frame]

theorem State.Requested.su {a : AgentId} {named : Slot → Bool} {scope : Scope} (h : t.Requested s a named scope) :
    t.su = s.su := by
  obtain ⟨set, u, -, made, placed, -⟩ := h
  rw [placed]
  exact (State.foldl_su State.grantEval_su _ u).trans made.su

end

/-! ### The procedures -/

section
variable (s : State)

@[simp] theorem State.revoke_su (x : Hold) : (s.revoke x).su = s.su :=
  (State.grantEval_su _ x.lock).trans
    (State.passUnreserved_noticePassed ((s.removeHold x .orphaned).setRevoked x.client x.lock true) x true).su

@[simp] theorem State.warnHold_su (x : Hold) (countdown : Countdown) (phase : Phase) :
    (s.warnHold x countdown phase).su = s.su :=
  (s.passUnreserved_noticePassed x false).su

@[simp] theorem State.attachAgent_su (a : AgentId) : (s.attachAgent a).su = s.su := (s.attachAgent_attached a).su

@[simp] theorem State.detachRequest_su (a : AgentId) (named : SlotSet) (scope : Scope) :
    (s.detachRequest a named scope).su = s.su :=
  (s.detachRequest_requested a named scope).su

/-! ### Expiries (R84, R87) -/

@[simp] theorem State.expireHold_su (x : Hold) : (s.expireHold x).su = s.su := by
  unfold State.expireHold
  split
  · exact s.revoke_su x
  · split
    · exact s.warnHold_su ..
    · exact s.revoke_su x
    · split
      · exact s.revoke_su x
      · exact s.warnHold_su ..

@[simp] theorem State.holdExpiryOp_su (c : ClientId) (n : LockId) : (s.holdExpiryOp c n).su = s.su := by
  unfold State.holdExpiryOp
  split
  · rfl
  · split
    · exact s.expireHold_su _
    · rfl

@[simp] theorem State.waitExpiryOp_su (c : ClientId) : (s.waitExpiryOp c).su = s.su := by
  unfold State.waitExpiryOp
  split
  · rfl
  · next w _ =>
    split
    · exact (State.grantEval_su _ w.lock).trans (s.endWaitReported_waitEnded c w.lock .expired .expired).su
    · rfl

/-! ### The time base (R80, R82) and the line edges (R113) -/

@[simp] theorem State.tick_su : s.tick.su = s.su := by
  simp [State.tick]

@[simp] theorem State.clockPeriod_su : s.clockPeriod.su = s.su := by
  unfold State.clockPeriod
  split
  · split
    · exact s.tick_su
    · rfl
  · rfl

@[simp] theorem State.assertLine_su (a : AgentId) : (s.assertLine a).su = s.su := by
  unfold State.assertLine
  split
  · rfl
  · dsimp only
    split
    · exact State.detachRequest_su (s.setLevel a true) a everySlot .agent
    · rfl

@[simp] theorem State.deassertLine_su (a : AgentId) : (s.deassertLine a).su = s.su := by
  unfold State.deassertLine
  split
  · rfl
  · dsimp only
    split
    · exact State.attachAgent_su (s.setLevel a false) a
    · rfl

/-! ### The steps of the ACTIVE job (R118 to R122) -/

@[simp] theorem State.reclaimWait_su (c : ClientId) : (s.reclaimWait c).su = s.su := by
  unfold State.reclaimWait
  split
  · rfl
  · next w _ => exact (State.grantEval_su _ w.lock).trans (s.cancelWait_waitEnded c w.lock).su

@[simp] theorem State.waitStepOp_su : s.waitStepOp.su = s.su := by
  unfold State.waitStepOp
  split
  · exact s.reclaimWait_su _
  · rfl

@[simp] theorem State.holdStepOp_su : s.holdStepOp.su = s.su := by
  unfold State.holdStepOp
  split
  · split
    · rfl
    · next x _ => exact State.grantEval_su (s.removeHold x .orphaned) x.lock
  · rfl

@[simp] theorem State.flushStepOp_su : s.flushStepOp.su = s.su := by
  unfold State.flushStepOp
  split <;> rfl

@[simp] theorem State.endClientJob_su (j : Job) : (s.endClientJob j).su = s.su := by
  unfold State.endClientJob
  split
  · exact State.foldl_su (f := fun u sl => u.returnClient (clientOf j.agent sl)) (fun _ _ => rfl) _ s
  · rfl
  · rfl

@[simp] theorem State.endAgentJob_su (a : AgentId) : (s.endAgentJob a).su = s.su := by
  have off : (allSlots.foldl (fun u sl => u.turnOffClient (clientOf a sl)) s).su = s.su :=
    State.foldl_su (f := fun u sl => u.turnOffClient (clientOf a sl)) (fun _ _ => rfl) allSlots s
  unfold State.endAgentJob
  dsimp only
  split
  · exact (State.attachAgent_su _ a).trans off
  · exact off

end

end Sys2Proof.Machine
end

section
/-! The denial record (R146, R147): DENIAL and the record are set together by an answer, cleared together by a
write of SFLAGS and by the resets, and left alone by everything else. -/

namespace Sys2Proof.Machine

/- One thread, as for the tests: a thread for each of these many short proofs takes more memory than it saves time. -/
set_option Elab.async false

section
variable {s t : State}

/-! ### What keeps the law -/

/-- Neither DENIAL nor the record changes. -/
theorem State.DenialSound.of_eq (h : s.DenialSound) (flag : t.su.flags.denial = s.su.flags.denial)
    (record : t.su.denialRecord = s.su.denialRecord) : t.DenialSound := by
  rw [State.DenialSound, flag, record]
  exact h

theorem State.DenialSound.of_su (h : s.DenialSound) (su : t.su = s.su := by rfl) : t.DenialSound :=
  h.of_eq (by rw [su]) (by rw [su])

/-- A DENIED answer fills an empty record and sets DENIAL with it; any other leaves both (R146). -/
theorem State.DenialSound.answer (h : s.DenialSound) {o : Origin} {r : Result} {n : LockId} {g : BitVec 16} :
    (s.answer o r n g).DenialSound := by
  obtain ⟨-, -, -, su, -⟩ := s.answer_answered o r n g
  rw [State.DenialOffered] at su
  split at su
  · rw [State.DenialSound, su]
    rfl
  · exact h.of_su su

theorem State.DenialSound.grantEval (h : s.DenialSound) {n : LockId} : (s.grantEval n).DenialSound :=
  h.of_su (s.grantEval_su n)

/-- The DEAD flush leaves the SU alone, and LOCK_DEAD is another flag. -/
theorem State.DenialSound.makeDead (h : s.DenialSound) (c : ClientId) (n : LockId) : (s.makeDead c n).DenialSound := by
  have su := s.makeDead_su c n
  exact h.of_eq (by rw [su]) (by rw [su])

theorem State.DenialSound.endJob (h : s.DenialSound) : s.endJob.DenialSound := by
  obtain ⟨-, su, -⟩ := s.endJob_jobEnded
  exact h.of_eq (by rw [su]) (by rw [su])

/-! ### The commands of clients -/

theorem State.DenialSound.acquireOp (h : s.DenialSound) (o : Origin) (n : LockId) (m : Mode) (k : Kind)
    (p : Priority) : (s.acquireOp o n m k p).DenialSound := by
  unfold State.acquireOp
  split
  · exact h.answer
  · exact .answer h.of_su
  · exact .grantEval (.answer h.of_su)

theorem State.DenialSound.releaseOp (h : s.DenialSound) (o : Origin) (n : LockId) :
    (s.releaseOp o n).DenialSound := by
  unfold State.releaseOp
  split
  · exact h.answer
  · split
    · split
      · exact .answer h.of_su
      · exact h.answer
    · split
      · exact (h.makeDead o.client n).answer
      · exact .answer (.grantEval h.of_su)

theorem State.DenialSound.markCleanOp (h : s.DenialSound) (o : Origin) (n : LockId) :
    (s.markCleanOp o n).DenialSound := by
  unfold State.markCleanOp
  split
  · exact h.answer
  · split
    · split <;> exact h.answer
    · split
      · exact .answer h.of_su
      · exact h.answer

theorem State.DenialSound.cancelOp (h : s.DenialSound) (o : Origin) : (s.cancelOp o).DenialSound := by
  unfold State.cancelOp
  split
  · exact h.answer
  · exact h.answer
  · split
    · exact h.answer
    · next w _ =>
      exact .grantEval (.answer (h.of_su (s.cancelWait_ready_waitEnded o.client w.lock).su))
  · split <;> exact h.answer

theorem State.DenialSound.renewOp (h : s.DenialSound) (o : Origin) (n : LockId) : (s.renewOp o n).DenialSound := by
  unfold State.renewOp
  split
  · exact h.answer
  · split
    · split <;> exact h.answer
    · split
      · exact h.answer
      · exact .answer h.of_su

theorem State.DenialSound.mailOp (h : s.DenialSound) (o : Origin) (target : AgentId) (payload : BitVec 16) :
    (s.mailOp o target payload).DenialSound := by
  unfold State.mailOp
  split_ifs
  case neg => exact .answer h.of_su
  all_goals exact h.answer

/-! ### The commands that write the SU -/

theorem State.DenialSound.writePlain (h : s.DenialSound) (r : PlainReg) (w : Word) :
    (s.writePlain r w).DenialSound := by
  cases r <;> exact h.of_eq rfl rfl

/-- A 1 at the DENIAL position clears the flag and empties the record, a 0 leaves both (R144, R147). -/
theorem State.DenialSound.writeSflags (h : s.DenialSound) (w : Word) : (s.writeSflags w).DenialSound := by
  rw [State.writeSflags_eq]
  cases w.getLsbD 1
  · exact h.of_eq (by simp) (by simp)
  · simp [State.DenialSound]

theorem State.DenialSound.setSResult (h : s.DenialSound) (r : SupResult) (code : BitVec 4) (number : Fin 64) :
    (s.setSResult r code number).DenialSound :=
  h.of_eq rfl rfl

/-- A step of the running sweep moves the sweep and may set SWEEP_DONE (R75, R76). -/
theorem State.DenialSound.sweepStepOp (h : s.DenialSound) : s.sweepStepOp.DenialSound := by
  by_cases running : s.su.sweep.running = true
  · rw [State.sweepStepOp_of_running running, Supervisor.swept]
    split_ifs <;> exact h.of_eq rfl rfl
  · rwa [State.sweepStepOp_of_idle running]

theorem State.DenialSound.clientJobFinalOp (h : s.DenialSound) : s.clientJobFinalOp.DenialSound := by
  unfold State.clientJobFinalOp
  split
  · next j _ =>
    split
    · exact (h.of_su (s.endClientJob_su j)).endJob
    · exact h
  · exact h

theorem State.DenialSound.agentJobFinalOp (h : s.DenialSound) : s.agentJobFinalOp.DenialSound := by
  unfold State.agentJobFinalOp
  split
  · next j _ =>
    split
    · exact (h.of_su (s.endAgentJob_su j.agent)).endJob
    · exact h
  · exact h

/-- The soft reset clears DENIAL and empties the record (R148, R158). -/
theorem State.softReset_denialSound (s : State) : s.softReset.DenialSound := rfl

/-- At power-on DENIAL is clear and the record empty (R159). -/
theorem State.powerOn_denialSound (s : State) (levels : BitVec 8) : (s.powerOn levels).DenialSound := rfl

/-! ### Every command and every step -/

theorem exec_detachClient_denialSound (h : s.DenialSound) (number : Fin 64) :
    ∃ t, exec (.detachClient number) s = .next t ∧ t.DenialSound := by
  refine ⟨_, rfl, ?_⟩
  split
  · exact .setSResult (h.of_su (s.detachRequest_su ..)) ..
  · exact h.setSResult ..

theorem exec_detachAgent_denialSound (h : s.DenialSound) (number : Fin 64) :
    ∃ t, exec (.detachAgent number) s = .next t ∧ t.DenialSound := by
  refine ⟨_, rfl, ?_⟩
  split
  · exact .setSResult (h.of_su (s.detachRequest_su ..)) ..
  · exact h.setSResult ..
  · exact h.setSResult ..

theorem exec_attach_denialSound (h : s.DenialSound) (number : Fin 64) :
    ∃ t, exec (.attach number) s = .next t ∧ t.DenialSound := by
  refine ⟨_, rfl, ?_⟩
  split
  · exact h.setSResult ..
  · exact h.setSResult ..
  · split
    · exact h.setSResult ..
    · exact .setSResult (h.of_su (s.attachAgent_su _)) ..

theorem exec_tick_denialSound (h : s.DenialSound) : ∃ t, exec .tick s = .next t ∧ t.DenialSound := by
  refine ⟨_, exec_tick s, ?_⟩
  split
  · exact h.of_su s.tick_su
  · exact h

/-- Every command keeps the law. -/
theorem exec_denialSound (i : Instr) (h : s.DenialSound) : ∃ t, exec i s = .next t ∧ t.DenialSound := by
  cases i
  case acquire => exact ⟨_, rfl, h.acquireOp ..⟩
  case release => exact ⟨_, rfl, h.releaseOp ..⟩
  case cancel => exact ⟨_, rfl, h.cancelOp _⟩
  case renew => exact ⟨_, rfl, h.renewOp ..⟩
  case markClean => exact ⟨_, rfl, h.markCleanOp ..⟩
  case mail => exact ⟨_, rfl, h.mailOp ..⟩
  case badOpcode => exact ⟨_, rfl, h.answer⟩
  case claimRead a n => exact ⟨_, exec_claimRead a n s, (h.acquireOp ..).of_su⟩
  case claimWrite a n data => exact ⟨_, exec_claimWrite a n data s, h.releaseOp ..⟩
  case accessMisuse acc => exact ⟨_, exec_accessMisuse acc s, h.of_eq rfl rfl⟩
  case registerWrite => exact ⟨_, rfl, h.writePlain ..⟩
  case setcfg n => exact ⟨_, exec_setcfg n s, h.of_eq rfl rfl⟩
  case online n => exact ⟨_, exec_online n s, h.of_eq rfl rfl⟩
  case offline n => exact ⟨_, exec_offline n s, h.of_eq rfl rfl⟩
  case restore n => exact ⟨_, exec_restore n s, h.of_eq rfl rfl⟩
  case detachClient number => exact exec_detachClient_denialSound h number
  case detachAgent number => exact exec_detachAgent_denialSound h number
  case attach number => exact exec_attach_denialSound h number
  case softReset => exact ⟨_, rfl, s.softReset_denialSound⟩
  case powerOnReset levels => exact ⟨_, rfl, s.powerOn_denialSound levels⟩
  case clearAccessErr w => exact ⟨_, rfl, h.writeSflags w⟩
  case clearDenial w => exact ⟨_, rfl, h.writeSflags w⟩
  case clearLockDead w => exact ⟨_, rfl, h.writeSflags w⟩
  case clearJobDone w => exact ⟨_, rfl, h.writeSflags w⟩
  case clearSweepDone w => exact ⟨_, rfl, h.writeSflags w⟩
  case resetAssertion a => exact ⟨_, rfl, h.of_su (s.assertLine_su a)⟩
  case resetDeassertion a => exact ⟨_, rfl, h.of_su (s.deassertLine_su a)⟩
  case tick => exact exec_tick_denialSound h
  case holdExpiry c n => exact ⟨_, rfl, h.of_su (s.holdExpiryOp_su c n)⟩
  case waitExpiry c => exact ⟨_, rfl, h.of_su (s.waitExpiryOp_su c)⟩
  case sweepStep => exact ⟨_, rfl, h.sweepStepOp⟩
  case waitStep => exact ⟨_, rfl, h.of_su s.waitStepOp_su⟩
  case holdStep => exact ⟨_, rfl, h.of_su s.holdStepOp_su⟩
  case flushStep => exact ⟨_, rfl, h.of_su s.flushStepOp_su⟩
  case clientJobFinalStep => exact ⟨_, rfl, h.clientJobFinalOp⟩
  case agentJobFinalStep => exact ⟨_, rfl, h.agentJobFinalOp⟩
  all_goals exact ⟨_, rfl, h.of_eq rfl rfl⟩

end

/-- Settles O52: the law alone is inductive; no command needs another one to keep it. -/
theorem denialRecordIsFullWhileDenialIsSet : Obligations.DenialRecordIsFullWhileDenialIsSet := fun s _ h ht =>
  of_step (P := State.DenialSound) ht (h.of_su s.clockPeriod_su) fun i _ => exec_denialSound i h.of_su

end Sys2Proof.Machine
end

section
/-! Words of SCMD and the commands they are (R149, R168). -/

namespace Sys2Proof.Machine

/-! ### The fields of a word written to SCMD -/

/-- Bits 13:8, the number. -/
def numberField (w : Word) : Fin 64 := Fin.ofNat 64 (fieldOf w 8 6)

theorem numberField_eq_iff (w : Word) (number : Fin 64) : numberField w = number ↔ w.toNat / 2 ^ 8 % 64 = number := by
  simp [numberField, fieldOf_eq, Fin.ext_iff]

section
variable (code : BitVec 4) (number : Fin 64)

theorem scmdWord_toNat : (scmdWord code number).toNat = number * 2 ^ 8 + code.toNat := by
  simp only [scmdWord, toNat_append_fields, bits_zero_toNat, lockBits_toNat]
  omega

theorem scmdWord_code : (scmdWord code number).extractLsb' 0 4 = code := by
  rw [← BitVec.toNat_inj, extract_toNat, scmdWord_toNat]
  omega

theorem scmdWord_number : numberField (scmdWord code number) = number := by
  rw [numberField_eq_iff, scmdWord_toNat]
  omega

end

/-- The mask keeps the code and the number of a word and clears every other bit. -/
theorem scmdWord_of_fields (w : Word) : scmdWord (w.extractLsb' 0 4) (numberField w) = w &&& 0x00003F0F := by
  have fields : w = w.extractLsb' 14 18 ++ w.extractLsb' 8 6 ++ w.extractLsb' 4 4 ++ w.extractLsb' 0 4 := by
    rw [← BitVec.toNat_inj]
    simp only [toNat_append_fields, extract_toNat]
    omega
  have mask : (0x00003F0F : Word) = 0#18 ++ BitVec.allOnes 6 ++ 0#4 ++ BitVec.allOnes 4 := by decide
  have number : bits 6 (numberField w) = w.extractLsb' 8 6 := by
    rw [← BitVec.toNat_inj, lockBits_toNat, extract_toNat]
    exact ((numberField_eq_iff w _).1 rfl).symm
  conv_rhs => rw [fields, mask]
  rw [BitVec.and_append, BitVec.and_append, BitVec.and_append, BitVec.and_zero, BitVec.and_zero, BitVec.and_allOnes,
    BitVec.and_allOnes, scmdWord, number]
  rfl

/-! ### The command of a code -/

/-- The command a code and a number name (R168). -/
def commandOf (code : BitVec 4) (number : Fin 64) : Instr :=
  if code = 1 then .setcfg number
  else if code = 2 then .online number
  else if code = 3 then .offline number
  else if code = 4 then .restore number
  else if code = 5 then .inspectLock number
  else if code = 6 then .inspectClient number
  else if code = 7 then .detachClient number
  else if code = 8 then .detachAgent number
  else if code = 9 then .attach number
  else if code = 10 then .softReset number
  else .badCommand code number

theorem decodeScmd_eq (w : Word) : decodeScmd w = commandOf (w.extractLsb' 0 4) (numberField w) := rfl

section
variable {code : BitVec 4} (number : Fin 64)

/-- A well-formed BAD_COMMAND has a code that is no command's own (R149). -/
theorem commandOf_undefined (undefined : (code == 0 || decide (10 < code.toNat)) = true) :
    commandOf code number = .badCommand code number := by
  unfold commandOf
  split_ifs
  case neg => rfl
  all_goals
    subst_vars
    exact absurd undefined (by decide)

theorem encodeScmd_commandOf : encodeScmd (commandOf code number) = some (scmdWord code number) := by
  unfold commandOf
  split_ifs <;> subst_vars <;> rfl

/-- A code that is no command's own is 0 or above 10. -/
theorem commandOf_wellFormed : WellFormed (commandOf code number) = true := by
  unfold commandOf
  split_ifs
  case neg =>
    simp only [WellFormed, Bool.or_eq_true, beq_iff_eq, decide_eq_true_eq]
    bv_omega
  all_goals rfl

end

/-- A well-formed command with an SCMD word is the command of its code and number. -/
theorem commandOf_of_encodeScmd {i : Instr} {w : Word} (wf : WellFormed i = true) (word : encodeScmd i = some w) :
    ∃ code number, i = commandOf code number ∧ w = scmdWord code number := by
  cases i
  case setcfg n => exact ⟨1, n, rfl, (Option.some.inj word).symm⟩
  case online n => exact ⟨2, n, rfl, (Option.some.inj word).symm⟩
  case offline n => exact ⟨3, n, rfl, (Option.some.inj word).symm⟩
  case restore n => exact ⟨4, n, rfl, (Option.some.inj word).symm⟩
  case inspectLock n => exact ⟨5, n, rfl, (Option.some.inj word).symm⟩
  case inspectClient number => exact ⟨6, number, rfl, (Option.some.inj word).symm⟩
  case detachClient number => exact ⟨7, number, rfl, (Option.some.inj word).symm⟩
  case detachAgent number => exact ⟨8, number, rfl, (Option.some.inj word).symm⟩
  case attach number => exact ⟨9, number, rfl, (Option.some.inj word).symm⟩
  case softReset number => exact ⟨10, number, rfl, (Option.some.inj word).symm⟩
  case badCommand code number =>
    exact ⟨code, number, (commandOf_undefined number wf).symm, (Option.some.inj word).symm⟩
  all_goals cases word

/-- Settles O58: a word's command is that of its code and number, which the command's word gives back. -/
theorem scmdWordsDecodeToTheirCommands : Obligations.ScmdWordsDecodeToTheirCommands := by
  refine ⟨fun i w wf word => ?_, fun w => ?_⟩
  · obtain ⟨code, number, rfl, rfl⟩ := commandOf_of_encodeScmd wf word
    rw [decodeScmd_eq, scmdWord_code, scmdWord_number]
  · rw [decodeScmd_eq, encodeScmd_commandOf, scmdWord_of_fields]
    exact ⟨commandOf_wellFormed _, rfl⟩

end Sys2Proof.Machine
end

section
/-! The snapshots of INSPECT_LOCK and INSPECT_CLIENT (R153, R154, R166, R170): each word is the number of its
fields, and each field is read from it at its place. -/

namespace Sys2Proof.Machine

/-! ### The codes of a snapshot -/

theorem clientBits_toNat (c : ClientId) : (bits 5 c).toNat = c := bits_toNat_of_lt c.isLt

theorem encodeCfgA_toNat (ceiling : Priority) (domain : Domain) (sharedOk renewable : Bool) (action : BitVec 2) :
    (encodeCfgA ceiling domain sharedOk renewable action).toNat =
      action.toNat * 2 ^ 12 + (flag renewable).toNat * 2 ^ 9 + (flag sharedOk).toNat * 2 ^ 8 + domain * 2 ^ 4
        + ceiling := by
  simp only [encodeCfgA, toNat_append_fields, bits_zero_toNat, slotBits_toNat, priorityBits_toNat]
  omega

theorem encodeHeadWaiter_none_toNat : (encodeHeadWaiter none).toNat = 0 := rfl

theorem encodeHeadWaiter_some_toNat (c : ClientId) : (encodeHeadWaiter (some c)).toNat = 2 ^ 5 + c := by
  simp only [encodeHeadWaiter, toNat_append_fields, bits_zero_toNat, flag_toNat, Bool.toNat_true, clientBits_toNat]
  omega

theorem encodeHolder_none_toNat : (encodeHolder none).toNat = 0 := rfl

theorem encodeHolder_some_toNat (h : Hold) :
    (encodeHolder (some h)).toNat = (flag h.warned).toNat * 2 ^ 7 + h.phase.bit.toNat * 2 ^ 6 + 2 ^ 5 + h.client := by
  have valid : (flag true).toNat = 1 := rfl
  simp only [encodeHolder, toNat_append_fields, valid, clientBits_toNat]
  omega

/-! ### The four words of a lock snapshot (R153, R170) -/

section
variable (s : State) (n : LockId)

theorem State.lockSnapshot_record :
    ((s.lockSnapshot n).get 0).toNat =
      (s.lock n).generation.toNat % 256 * 2 ^ 24 + (flag (s.lock n).cleanPending).toNat * 2 ^ 20
        + (s.lock n).state.code.toNat * 2 ^ 16 + n * 2 ^ 8 + 1 := by
  show ((_ : BitVec 30) ++ (_ : BitVec 2)).toNat = _
  simp only [toNat_append_fields, bits_toNat, BitVec.extractLsb'_toNat]
  omega

theorem State.lockSnapshot_cfgA :
    ((s.lockSnapshot n).get 1).toNat =
      (s.lock n).generation.toNat / 256 * 2 ^ 24 + (s.lock n).config.action.code.toNat * 2 ^ 12
        + (flag (s.lock n).config.renewable).toNat * 2 ^ 9 + (flag (s.lock n).config.sharedOk).toNat * 2 ^ 8
        + (s.lock n).config.domain * 2 ^ 4 + (s.lock n).config.ceiling := by
  show ((_ : BitVec 8) ++ (_ : BitVec 24)).toNat = _
  simp only [toNat_append_fields, BitVec.extractLsb'_toNat, encodeCfgA_toNat, Nat.shiftRight_eq_div_pow]
  omega

theorem State.lockSnapshot_cfgB :
    ((s.lockSnapshot n).get 2).toNat =
      (s.lock n).config.grace.toNat * 2 ^ 16 + (s.lock n).config.budget.toNat :=
  toNat_append_fields ..

theorem State.lockSnapshot_clients :
    ((s.lockSnapshot n).get 3).toNat =
      (encodeHeadWaiter (s.lock n).queue.head?).toNat * 2 ^ 24 + (encodeHolder (s.exclusiveHolder n)).toNat * 2 ^ 16
        + (s.lock n).queue.length % 32 * 2 ^ 8 + (s.holders n).length % 64 := by
  show ((_ : BitVec 26) ++ (_ : BitVec 6)).toNat = _
  simp only [toNat_append_fields, bits_toNat]
  omega

/-- Bits 31:24 of the fourth word. -/
theorem State.lockSnapshot_headWaiter :
    ((s.lockSnapshot n).get 3).toNat / 2 ^ 24 = (encodeHeadWaiter (s.lock n).queue.head?).toNat := by
  rw [s.lockSnapshot_clients n]
  omega

/-- Bits 23:16 of the fourth word. -/
theorem State.lockSnapshot_holder :
    ((s.lockSnapshot n).get 3).toNat / 2 ^ 16 % 2 ^ 8 = (encodeHolder (s.exclusiveHolder n)).toNat := by
  rw [s.lockSnapshot_clients n]
  omega

theorem State.exclusiveHolder_of_exclusive (h : (s.lock n).state = .held ∨ (s.lock n).state = .suspect) :
    s.exclusiveHolder n = (s.holders n).head? := if_pos h

theorem State.exclusiveHolder_of_not_exclusive (h : ¬ ((s.lock n).state = .held ∨ (s.lock n).state = .suspect)) :
    s.exclusiveHolder n = none := if_neg h

end

theorem exec_inspectLock (n : LockId) (s : State) :
    exec (.inspectLock n) s = .next ((s.setInspect (s.lockSnapshot n)).setSResult .done 5 n) := rfl

/-- Settles O26: each field is read from the number of its word. -/
theorem inspectLockShowsTheRecord : Obligations.InspectLockShowsTheRecord := by
  intro n s
  refine ⟨_, s.setInspect (s.lockSnapshot n), exec_inspectLock n s, State.setSResult_reported .., rfl, ?_⟩
  have record := s.lockSnapshot_record n
  have cfgA := s.lockSnapshot_cfgA n
  have cfgB := s.lockSnapshot_cfgB n
  have clients := s.lockSnapshot_clients n
  have headWaiter := s.lockSnapshot_headWaiter n
  have holder := s.lockSnapshot_holder n
  simp only [State.setInspect_eq, State.setSu_su, extract_toNat, ← flag_toNat]
  refine ⟨?_, ?_, ?_, ?_, ?_, ?_, ?_, ?_, ?_, ?_, ?_, ?_, ?_, ?_, ?_, fun empty => ?noWaiter,
    fun c rest queue => ?headWaiter, fun others => ?noHolder, fun h rest exclusive holders => ?holder⟩
  case noWaiter =>
    rw [empty, List.head?_nil, encodeHeadWaiter_none_toNat] at headWaiter
    omega
  case headWaiter =>
    rw [queue, List.head?_cons, encodeHeadWaiter_some_toNat] at headWaiter
    omega
  case noHolder =>
    rw [s.exclusiveHolder_of_not_exclusive n others, encodeHolder_none_toNat] at holder
    omega
  case holder =>
    rw [s.exclusiveHolder_of_exclusive n exclusive, holders, List.head?_cons, encodeHolder_some_toNat] at holder
    omega
  all_goals omega

/-! ### CSTAT and the client snapshot (R154, R166, R170) -/

/-- A lock that may be named: its number under a valid bit, both 0 where there is none (R166). -/
def lockReference {α : Type} (lock : α → LockId) : Option α → Nat
  | none => 0
  | some x => 2 ^ 6 + lock x

section
variable {α : Type} (lock : α → LockId) (o : Option α)

theorem lockReference_lt : lockReference lock o < 2 ^ 7 := by
  cases o
  case none => exact Nat.two_pow_pos 7
  case some x => exact Nat.add_lt_add_left (lock x).isLt 64

theorem lockReference_eq :
    (flag o.isSome).toNat * 2 ^ 6 + (bits 6 (o.elim 0 fun x => (lock x).val)).toNat = lockReference lock o := by
  cases o
  case none => rfl
  case some x => exact congrArg (2 ^ 6 + ·) (lockBits_toNat (lock x))

end

section
variable (s : State) (c : ClientId)

theorem State.cstatWord_toNat :
    (s.cstatWord c).toNat =
      s.clientCeiling c % 32 * 2 ^ 24 + lockReference WaitRecord.lock (s.client c).wait * 2 ^ 16
        + lockReference (fun n => n) (s.mark c) * 2 ^ 8 + (s.heldList c).length % 16 * 2 ^ 4
        + (s.client c).state.code.toNat := by
  simp only [← lockReference_eq, State.cstatWord, toNat_append_fields, bits_zero_toNat]
  rw [bits_toNat 5, bits_toNat 4]
  omega

theorem State.clientSnapshot_record : ((s.clientSnapshot c).get 0).toNat = c * 2 ^ 8 + 2 := by
  have number : (bits 6 c).toNat = c := bits_toNat_of_lt (by omega)
  show ((_ : BitVec 30) ++ (_ : BitVec 2)).toNat = _
  simp only [toNat_append_fields, number, bits_toNat]
  omega

/-- The revoked set has at most 64 members, so that their count fits its field. -/
theorem State.clientSnapshot_revoked :
    (s.clientSnapshot c).get 2 =
      BitVec.ofNat 32 ((List.finRange 64).filter fun n => (s.client c).revoked.get n).length := by
  rw [← Client.revokedCount_eq]
  have count : (s.client c).revokedCount ≤ 64 := by
    rw [Client.revokedCount_eq]
    exact (List.length_filter_le ..).trans_eq List.length_finRange
  refine word_eq_ofNat ?_
  show (bits 25 0 ++ bits 7 (s.client c).revokedCount).toNat = _
  rw [toNat_append_fields, bits_zero_toNat, Nat.zero_mul, Nat.zero_add, bits_toNat_of_lt (by omega)]

end

theorem exec_inspectClient {number : Fin 64} {c : ClientId} (s : State) (client : clientOfNumber number = c) :
    exec (.inspectClient number) s =
      .next ((s.setInspect (s.clientSnapshot c)).setSResult .done 6 (numberOfClient c)) := by
  subst client
  rfl

/-- Settles O27: the second word is CSTAT, and each field is read from the number of its word. -/
theorem inspectClientShowsTheContext : Obligations.InspectClientShowsTheContext := by
  intro number s c hc
  refine ⟨_, s.setInspect (s.clientSnapshot c), exec_inspectClient s (clientOfNumber_eq hc),
    State.setSResult_reported .., rfl, ?_⟩
  have record := s.clientSnapshot_record c
  have cstat : ((s.clientSnapshot c).get 1).toNat = _ := s.cstatWord_toNat c
  have waitLt := lockReference_lt WaitRecord.lock (s.client c).wait
  have markLt := lockReference_lt (fun n => n) (s.mark c)
  have sameClient : some (s.cstatWord c) = s.readReg (.agent (agentOf c) (.cstat (slotOf c))) :=
    congrArg (fun d => some (s.cstatWord d)) (clientOf_agentOf_slotOf c).symm
  simp only [State.setInspect_eq, State.setSu_su, extract_toNat]
  refine ⟨?_, ?_, rfl, sameClient, s.clientSnapshot_revoked c, ?_, s.heldList_eq_filterMap c, ?_, ?_,
    fun none => ?noMark, fun n mark => ?mark, fun none => ?noWait, fun w wait => ?wait⟩
  case noMark =>
    rw [none, lockReference] at cstat
    omega
  case mark =>
    rw [mark, lockReference] at cstat
    omega
  case noWait =>
    rw [none, lockReference] at cstat
    omega
  case wait =>
    rw [wait, lockReference] at cstat
    omega
  all_goals omega

end Sys2Proof.Machine
end

section
/-! SOFT_RESET (R14, R28, R95, R111, R126, R148, R158): the share of each block. -/

namespace Sys2Proof.Machine

theorem LockState.afterSoftReset_eq (st : LockState) :
    st.afterSoftReset =
      if st = .held ∨ st = .suspect then .orphaned else if st = .shared then .free else st := by
  cases st <;> rfl

theorem attachAfterSoftReset_eq (autoAttach : Bool) (l : AgentLine) :
    attachAfterSoftReset autoAttach l =
      if l.attach = .detaching then (if autoAttach = true ∧ l.asserted = false then .attached else .detached)
      else l.attach := by
  unfold attachAfterSoftReset
  cases l.attach <;> simp

theorem clientAfterSoftReset_eq (st : AttachState) :
    clientAfterSoftReset st = if st = .attached then .ready else .off := by
  cases st <;> rfl

section
variable (s : State)

/-- The CT reads the attach states the reset leaves (R28). -/
theorem State.softReset_client (c : ClientId) :
    s.softReset.client c = (s.client c).softReset (s.softReset.line (agentOf c)).attach := by
  rw [State.softReset_line]
  simp [State.softReset]

theorem State.softReset_nu (a : AgentId) : s.softReset.nu a = (s.nu a).softReset := by
  simp [State.softReset]

theorem State.softReset_su : s.softReset.su = s.su.softReset := by
  simp [State.softReset]

theorem State.softReset_windows : s.softReset.windows = s.windows := by
  simp [State.softReset]

theorem State.softReset_tb : s.softReset.tb = s.tb := by
  simp [State.softReset]

theorem State.softReset_busData : s.softReset.busData = s.busData := by
  simp [State.softReset]

end

/-- Settles O31: the shares of the blocks, one by one. -/
theorem softResetTakesEveryShare : Obligations.SoftResetTakesEveryShare := by
  refine fun _ s => ⟨s.softReset, rfl, fun n => ?locks, rfl, fun a => ?lines, fun c => ?clients, s.softReset_nu, rfl,
    rfl, s.softReset_su, s.softReset_windows, s.softReset_tb, s.softReset_busData⟩
  case locks => rw [State.softReset_lock, LockRecord.softReset, LockState.afterSoftReset_eq]
  case lines => rw [State.softReset_line, attachAfterSoftReset_eq]
  case clients =>
    rw [State.softReset_client, Client.softReset, clientAfterSoftReset_eq]
    rfl

end Sys2Proof.Machine
end

section
/-! Power-on reset (R1, R19, R29, R96, R112, R159, R161, R162). -/

namespace Sys2Proof.Machine

section
variable (s : State) (levels : BitVec 8)

/-! ### The parts of the power-on state that the registers show -/

theorem State.powerOn_su : (s.powerOn levels).su = Supervisor.powerOn := rfl

theorem State.powerOn_tb :
    (s.powerOn levels).tb = { run := false, prescale := 0, prescalerCount := 0, now := 0 } := rfl

theorem State.powerOn_waitingJobs : (s.powerOn levels).waitingJobs = [] := rfl

theorem State.powerOn_freeCount : (s.powerOn levels).freeCount = 96 := rfl

theorem State.powerOn_agentConfig (a : AgentId) :
    (s.powerOn levels).agentConfig a = { mask := 1, autoAttach := true } := by
  simp [State.agentConfig, State.powerOn_su, Supervisor.powerOn, Vector.get_eq_getElem]

theorem State.powerOn_window (a : AgentId) : (s.powerOn levels).window a = { slot := 0, priority := 0 } := by
  simp [State.powerOn, State.window, State.reset, Vector.get_eq_getElem]

theorem State.powerOn_mark (c : ClientId) : (s.powerOn levels).mark c = none := rfl

theorem State.powerOn_clientCeiling (c : ClientId) : (s.powerOn levels).clientCeiling c = 16 := rfl

theorem powerOnClient_revokedCount (c : ClientId) : (powerOnClient levels c).revokedCount = 0 := by
  simp [Client.revokedCount, powerOnClient, Client.powerOn]

/-! ### The registers of an agent page (R161) -/

variable (a : AgentId) (sl : Slot)

theorem State.powerOn_result : (s.powerOn levels).readReg (.agent a (.result sl)) = some 0 := by
  show some ((s.powerOn levels).client (clientOf a sl)).result.encode = _
  rw [State.powerOn_client]
  show some ResultWord.noResult.encode = _
  rfl

theorem State.powerOn_waitlim : (s.powerOn levels).readReg (.agent a (.waitlim sl)) = some 0 := by
  refine some_word_eq (n := 0) ((waitlimWord_toNat _).trans ?_)
  rw [State.powerOn_client]
  rfl

theorem State.powerOn_cstat :
    (s.powerOn levels).readReg (.agent a (.cstat sl)) =
      some (if levels.getLsbD a = true then 0x10000000 else 0x10000001) := by
  refine congrArg some (BitVec.eq_of_toNat_eq ((State.cstatWord_toNat ..).trans ?_))
  rw [State.powerOn_mark, State.powerOn_clientCeiling, State.powerOn_client, powerOnClient, agentOf_clientOf]
  cases levels.getLsbD a <;> rfl

/-- The registers of the Notice Unit. -/
theorem State.powerOn_noticeRegisters :
    (s.powerOn levels).readReg (.agent a .npeek) = some 0
      ∧ (s.powerOn levels).readReg (.agent a .nqstat) = some 0
      ∧ (s.powerOn levels).readReg (.agent a .nqcfg) = some 1
      ∧ (s.powerOn levels).readReg (.agent a .aflags) = some 0
      ∧ (s.powerOn levels).readReg (.agent a .aen) = some 0
      ∧ (s.powerOn levels).readReg (.agent a .faultrec) = some 0 := by
  simp only [State.readReg, State.readAgentReg, State.nqstatWord, State.aflagsWord, State.aenWord, State.powerOn_nu]
  exact ⟨rfl, rfl, rfl, rfl, rfl, rfl⟩

theorem State.powerOn_wincfg : (s.powerOn levels).readReg (.agent a .wincfg) = some 0 := by
  show some ((s.powerOn levels).wincfgWord a) = _
  rw [State.wincfgWord, State.powerOn_window]
  rfl

theorem State.powerOn_ainfo :
    (s.powerOn levels).readReg (.agent a .ainfo) =
      some ((if levels.getLsbD a = true then 0x00000120 else 0x00000100) + BitVec.ofNat 32 a) := by
  refine congrArg some (BitVec.eq_of_toNat_eq ?_)
  rw [State.ainfoWord_toNat, State.powerOn_agentConfig, State.powerOn_line, powerOnLine]
  generalize levels.getLsbD a = held
  revert a held
  decide

/-! ### The registers of the control page (R162) -/

theorem State.powerOn_agcfg : (s.powerOn levels).readReg (.control (.agcfg a)) = some 0x00000101 := by
  show some ((s.powerOn levels).agcfgWord a) = _
  rw [State.agcfgWord, State.powerOn_agentConfig]
  rfl

theorem State.powerOn_agstate :
    ((s.powerOn levels).readControlReg .agstate).extractLsb' (2 * a.val) 2 =
      if levels.getLsbD a = true then 2 else 0 := by
  show (s.powerOn levels).agstateWord.extractLsb' _ _ = _
  rw [State.agstateWord_agent, State.powerOn_line, powerOnLine]
  cases levels.getLsbD a <;> rfl

/-- LINESTAT shows the levels sampled at power-on. -/
theorem State.powerOn_linestat :
    (s.powerOn levels).readReg (.control .linestat) = some (levels.setWidth 32) := by
  refine congrArg some (BitVec.eq_of_getLsbD_eq fun i hi => ?_)
  show (s.powerOn levels).linestatWord.getLsbD i = _
  by_cases agent : i < 8
  · rw [State.linestatWord_agent _ ⟨i, agent⟩, State.powerOn_line, BitVec.getLsbD_setWidth, decide_eq_true hi,
      Bool.true_and]
    rfl
  · have above : (s.powerOn levels).linestatWord.getLsbD i = false := by
      have high := congrArg (·.getLsbD (i - 8)) (s.powerOn levels).linestatWord_above
      simpa [hi, show i - 8 < 24 by omega, show 8 + (i - 8) = i by omega] using high
    rw [above, BitVec.getLsbD_setWidth, BitVec.getLsbD_of_ge levels i (by omega), Bool.and_false]

theorem State.powerOn_sresult : (s.powerOn levels).readReg (.control .sresult) = some 0 :=
  some_word_eq (n := 0) (SResult.encode_toNat Supervisor.powerOn.sresult)

theorem State.powerOn_cfgA : (s.powerOn levels).readReg (.control .cfgA) = some 0x0000020F :=
  some_word_eq (n := 0x20F) (cfgAWord_toNat 15 0 false true 0)

theorem State.powerOn_cfgB : (s.powerOn levels).readReg (.control .cfgB) = some 0 :=
  some_word_eq (n := 0) (toNat_append_fields 0#16 0#16)

theorem State.powerOn_gate : (s.powerOn levels).readReg (.control .gate) = some 0x00000010 := rfl

theorem State.powerOn_sweepstat : (s.powerOn levels).readReg (.control .sweepstat) = some 0 := by
  refine some_word_eq (n := 0) ((State.sweepstatWord_toNat _).trans ?_)
  rw [State.powerOn_su]
  rfl

theorem State.powerOn_tbctrl : (s.powerOn levels).readReg (.control .tbctrl) = some 0 := by
  refine some_word_eq (n := 0) ((State.tbctrlWord_toNat _).trans ?_)
  rw [State.powerOn_tb]
  rfl

theorem State.powerOn_tbnow : (s.powerOn levels).readReg (.control .tbnow) = some 0 := rfl

theorem State.powerOn_poolstat : (s.powerOn levels).readReg (.control .poolstat) = some 0x00000060 := by
  refine some_word_eq (n := 0x60) ((State.poolstatWord_toNat _).trans ?_)
  rw [State.powerOn_su, State.powerOn_freeCount]
  rfl

theorem State.powerOn_jobstat : (s.powerOn levels).readReg (.control .jobstat) = some 0 := by
  refine some_word_eq (n := 0) ((State.jobstatWord_of_idle _ rfl).trans ?_)
  rw [State.powerOn_waitingJobs]
  rfl

theorem State.powerOn_denialrec : (s.powerOn levels).readReg (.control .denialrec) = some 0 := rfl

/-- Every flag and every enable is clear. -/
theorem encodeSupFlags_clear : encodeSupFlags SupFlags.clear false = 0 :=
  word_eq_ofNat (encodeSupFlags_toNat ..)

theorem State.powerOn_sflags : (s.powerOn levels).readReg (.control .sflags) = some 0 :=
  congrArg some encodeSupFlags_clear

theorem State.powerOn_sen : (s.powerOn levels).readReg (.control .sen) = some 0 :=
  congrArg some encodeSupFlags_clear

theorem State.powerOn_inspect (i : Fin 4) : (s.powerOn levels).readReg (.control (.inspect i)) = some 0 := by
  show some (Supervisor.powerOn.inspect.get i) = _
  simp [Supervisor.powerOn, Vector.get_eq_getElem]

end

/-- Settles O33: every register shows a part of the power-on state, and the levels show in the attach state of
each agent, in the state of its clients and in LINESTAT. -/
theorem powerOnValues : Obligations.PowerOnValues := by
  intro levels s
  refine ⟨s.powerOn levels, rfl, s.powerOn_lock levels, rfl, fun c => ?clients, rfl, fun a => ?page, rfl,
    s.powerOn_sresult levels, s.powerOn_cfgA levels, s.powerOn_cfgB levels, s.powerOn_inspect levels,
    s.powerOn_gate levels, s.powerOn_sweepstat levels, s.powerOn_tbctrl levels, s.powerOn_tbnow levels,
    s.powerOn_poolstat levels, s.powerOn_jobstat levels, s.powerOn_linestat levels, s.powerOn_sflags levels,
    s.powerOn_sen levels, s.powerOn_denialrec levels⟩
  case clients =>
    rw [State.powerOn_client]
    exact ⟨rfl, rfl, powerOnClient_revokedCount levels c⟩
  case page =>
    obtain ⟨npeek, nqstat, nqcfg, aflags, aen, faultrec⟩ := s.powerOn_noticeRegisters levels a
    exact ⟨congrArg AgentLine.asserted (s.powerOn_line levels a), congrArg AgentLine.attach (s.powerOn_line levels a),
      fun sl => ⟨s.powerOn_result levels a sl, s.powerOn_waitlim levels a sl, s.powerOn_cstat levels a sl⟩, npeek,
      nqstat, nqcfg, aflags, aen, faultrec, s.powerOn_wincfg levels a, s.powerOn_ainfo levels a,
      s.powerOn_agcfg levels a, s.powerOn_agstate levels a⟩

end Sys2Proof.Machine
end

section
/-! The plain registers (R133, R134, R141, R145, R151, R156, R160 to R162): a read gives the written word under the
mask of the fields. -/

namespace Sys2Proof.Machine

/-! ### A word and its mask, field by field (R160) -/

/-- `field` is the part of `w` from bit `lo` on, with the bits outside `mask` 0. -/
def MaskedField (w : Word) (lo : Nat) {n : Nat} (mask field : BitVec n) : Prop :=
  field = w.extractLsb' lo n &&& mask

section
variable (w : Word) (lo : Nat)

theorem maskedField_gap (n : Nat) : MaskedField w lo 0#n (bits n 0) :=
  BitVec.and_zero.symm

theorem maskedField_extract (n : Nat) : MaskedField w lo (BitVec.allOnes n) (w.extractLsb' lo n) :=
  BitVec.and_allOnes.symm

theorem maskedField_flag : MaskedField w lo (BitVec.allOnes 1) (flag (w.getLsbD lo)) := by
  have bit : flag (w.getLsbD lo) = w.extractLsb' lo 1 := by
    rw [← BitVec.toNat_inj, extract_toNat]
    exact ((getLsbD_eq_iff w lo _).1 rfl).symm
  rw [bit]
  exact maskedField_extract w lo 1

/-- A field stored as a number of its range. -/
theorem maskedField_number (n : Nat) :
    MaskedField w lo (BitVec.allOnes n) (bits n (Fin.ofNat (2 ^ n) (fieldOf w lo n))) := by
  have number : bits n (Fin.ofNat (2 ^ n) (fieldOf w lo n)) = w.extractLsb' lo n := by
    rw [← BitVec.toNat_inj, bits_toNat, Fin.val_ofNat, Nat.mod_mod]
    exact Nat.mod_eq_of_lt (w.extractLsb' lo n).isLt
  rw [number]
  exact maskedField_extract w lo n

end

section
variable {w : Word}

/-- Fields side by side are masked by their masks side by side. -/
theorem MaskedField.append {lo m n : Nat} {maskX x : BitVec m} {maskY y : BitVec n}
    (upper : MaskedField w (lo + n) maskX x) (lower : MaskedField w lo maskY y) :
    MaskedField w lo (maskX ++ maskY) (x ++ y) := by
  have parts : w.extractLsb' lo (m + n) = w.extractLsb' (lo + n) m ++ w.extractLsb' lo n :=
    (BitVec.extractLsb'_append_extractLsb'_eq_extractLsb' rfl).symm
  rw [MaskedField, upper, lower, parts, BitVec.and_append]

/-- Fields that fill the word are the masked word. -/
theorem MaskedField.eq_and {mask word : Word} (fields : MaskedField w 0 mask word) : word = w &&& mask := by
  rw [fields, BitVec.extractLsb'_eq_self]

end

/-! ### What each register stores, at its place -/

section
variable (w : Word)

theorem waitlimWord_written : (bits 16 0 ++ w.extractLsb' 0 16 : Word) = w &&& 0x0000FFFF :=
  ((maskedField_gap w 16 16).append (maskedField_extract w 0 16)).eq_and

theorem wincfgWord_written :
    bits 20 0 ++ bits 4 (Fin.ofNat 16 (fieldOf w 8 4)) ++ bits 6 0 ++ bits 2 (Fin.ofNat 4 (fieldOf w 0 2)) =
      w &&& 0x00000F03 :=
  ((((maskedField_gap w 12 20).append (maskedField_number w 8 4)).append (maskedField_gap w 2 6)).append
    (maskedField_number w 0 2)).eq_and

theorem aenWord_written :
    bits 29 0 ++ flag (w.getLsbD 2) ++ flag (w.getLsbD 1) ++ flag (w.getLsbD 0) = w &&& 0x00000007 :=
  ((((maskedField_gap w 3 29).append (maskedField_flag w 2)).append (maskedField_flag w 1)).append
    (maskedField_flag w 0)).eq_and

theorem encodeCfgA_maskedField :
    MaskedField w 0 0x00333F#24
      (encodeCfgA (Fin.ofNat 16 (fieldOf w 0 4)) (Fin.ofNat 4 (fieldOf w 4 2)) (w.getLsbD 8) (w.getLsbD 9)
        (w.extractLsb' 12 2)) :=
  have action := ((maskedField_gap w 14 10).append (maskedField_extract w 12 2)).append (maskedField_gap w 10 2)
  have sharing := ((action.append (maskedField_flag w 9)).append (maskedField_flag w 8)).append (maskedField_gap w 6 2)
  (sharing.append (maskedField_number w 4 2)).append (maskedField_number w 0 4)

theorem cfgAWord_written :
    bits 8 0 ++ encodeCfgA (Fin.ofNat 16 (fieldOf w 0 4)) (Fin.ofNat 4 (fieldOf w 4 2)) (w.getLsbD 8) (w.getLsbD 9)
        (w.extractLsb' 12 2) =
      w &&& 0x0000333F :=
  ((maskedField_gap w 24 8).append (encodeCfgA_maskedField w)).eq_and

theorem cfgBWord_written : encodeCfgB (w.extractLsb' 0 16) (w.extractLsb' 16 16) = w :=
  ((maskedField_extract w 16 16).append (maskedField_extract w 0 16)).eq_and.trans BitVec.and_allOnes

theorem agcfgWord_written :
    bits 23 0 ++ flag (w.getLsbD 8) ++ bits 4 0 ++ w.extractLsb' 0 4 = w &&& 0x0000010F :=
  ((((maskedField_gap w 9 23).append (maskedField_flag w 8)).append (maskedField_gap w 4 4)).append
    (maskedField_extract w 0 4)).eq_and

theorem senWord_written : encodeSupFlags (SupFlags.ofWord w) (w.getLsbD 8) = w &&& 0x0000011F :=
  have poolLow := ((maskedField_gap w 9 23).append (maskedField_flag w 8)).append (maskedField_gap w 5 3)
  (((((poolLow.append (maskedField_flag w 4)).append (maskedField_flag w 3)).append (maskedField_flag w 2)).append
    (maskedField_flag w 1)).append (maskedField_flag w 0)).eq_and

end

/-! ### What a write leaves in the state -/

section
variable (s : State) (a : AgentId) (w : Word)

theorem State.writePlain_waitlim_clientChanged (sl : Slot) :
    (s.writePlain (.waitlim a sl) w).ClientChanged s (clientOf a sl)
      { s.client (clientOf a sl) with waitLimit := w.extractLsb' 0 16 } :=
  s.setClient_clientChanged _ _

theorem State.writePlain_wincfg_window (b : AgentId) :
    (s.writePlain (.wincfg a) w).window b =
      if b = a then { slot := Fin.ofNat 4 (fieldOf w 0 2), priority := Fin.ofNat 16 (fieldOf w 8 4) }
      else s.window b :=
  s.setWindow_window a _ b

theorem State.writePlain_aen_nuChanged :
    (s.writePlain (.aen a) w).NuChanged s a
      { s.nu a with noticeEn := w.getLsbD 0, lostEn := w.getLsbD 1, faultEn := w.getLsbD 2 } :=
  s.setNu_nuChanged a _

theorem State.writePlain_agcfg_agentConfig (b : AgentId) :
    (s.writePlain (.agcfg a) w).agentConfig b =
      if b = a then { mask := w.extractLsb' 0 4, autoAttach := w.getLsbD 8 } else s.agentConfig b :=
  vector_get_set _ _ _ _

/-! ### What a read gives after a write -/

theorem State.writePlain_waitlim_read (sl : Slot) :
    (s.writePlain (.waitlim a sl) w).readReg (.agent a (.waitlim sl)) = some (w &&& 0x0000FFFF) := by
  obtain ⟨client, -⟩ := s.writePlain_waitlim_clientChanged a w sl
  show some (bits 16 0 ++ ((s.writePlain (.waitlim a sl) w).client (clientOf a sl)).waitLimit) = _
  rw [client, ← waitlimWord_written]

theorem State.writePlain_wincfg_read :
    (s.writePlain (.wincfg a) w).readReg (.agent a .wincfg) = some (w &&& 0x00000F03) := by
  show some ((s.writePlain (.wincfg a) w).wincfgWord a) = _
  rw [State.wincfgWord, State.writePlain_wincfg_window, if_pos rfl, ← wincfgWord_written]

theorem State.writePlain_aen_read :
    (s.writePlain (.aen a) w).readReg (.agent a .aen) = some (w &&& 0x00000007) := by
  obtain ⟨nu, -⟩ := s.writePlain_aen_nuChanged a w
  show some ((s.writePlain (.aen a) w).aenWord a) = _
  rw [State.aenWord, nu, ← aenWord_written]

theorem State.writePlain_cfgA_read :
    (s.writePlain .cfgA w).readReg (.control .cfgA) = some (w &&& 0x0000333F) :=
  congrArg some (cfgAWord_written w)

theorem State.writePlain_cfgB_read : (s.writePlain .cfgB w).readReg (.control .cfgB) = some w :=
  congrArg some (cfgBWord_written w)

theorem State.writePlain_agcfg_read :
    (s.writePlain (.agcfg a) w).readReg (.control (.agcfg a)) = some (w &&& 0x0000010F) := by
  show some ((s.writePlain (.agcfg a) w).agcfgWord a) = _
  rw [State.agcfgWord, State.writePlain_agcfg_agentConfig, if_pos rfl, ← agcfgWord_written]

theorem State.writePlain_sen_read : (s.writePlain .sen w).readReg (.control .sen) = some (w &&& 0x0000011F) :=
  congrArg some (senWord_written w)

end

/-- Settles O20, register by register: the read is the masked word, and the write changes only what is behind the
register. -/
theorem plainRegistersStoreTheirFields : Obligations.PlainRegistersStoreTheirFields := by
  intro w s
  refine ⟨fun a sl => ⟨_, rfl, s.writePlain_waitlim_read a w sl, ?waitlim⟩,
    fun a => ⟨_, rfl, s.writePlain_wincfg_read a w, fun b other => ?wincfg, rfl⟩,
    fun a => ⟨_, rfl, s.writePlain_aen_read a w, s.writePlain_aen_nuChanged a w⟩,
    ⟨_, rfl, s.writePlain_cfgA_read w, rfl⟩, ⟨_, rfl, s.writePlain_cfgB_read w, rfl⟩,
    fun a => ⟨_, rfl, s.writePlain_agcfg_read a w, fun b other => ?agcfg, rfl⟩,
    _, rfl, s.writePlain_sen_read w, rfl⟩
  case waitlim =>
    have changed := s.writePlain_waitlim_clientChanged a w sl
    have ⟨client, _⟩ := changed
    rw [client]
    exact changed
  case wincfg => rw [State.writePlain_wincfg_window, if_neg other]
  case agcfg => rw [State.writePlain_agcfg_agentConfig, if_neg other]

end Sys2Proof.Machine
end

section
/-! What a step runs (log 1), and the state right after reset (R159). -/

namespace Sys2Proof.Machine

/-! ### The front of the queue -/

theorem step_of_pending {s : State} {c : Instr} {rest : List Instr} (front : s.pending = c :: rest) :
    step s = exec c { s with pending := rest } := by
  unfold step
  rw [front]

/-- Settles O1: such a state has the command at its front, and a queue put in place twice is the second one. -/
theorem stepTakesTheFrontCommand : Obligations.StepTakesTheFrontCommand := fun _ _ _ => step_of_pending rfl

/-! ### Every law at power-on, for any levels (R1) -/

section
variable (s : State) (levels : BitVec 8)

theorem State.powerOn_noticesSound : (s.powerOn levels).NoticesSound := by
  intro a
  rw [State.slotsTaken, State.powerOn_nu]
  exact ⟨Nat.zero_le _, Nat.le_refl 1, rfl, nofun, rfl⟩

theorem State.powerOn_rankSound : (s.powerOn levels).RankSound :=
  State.rankSound_of_idle fun c => by rw [State.powerOn_client]; rfl

theorem State.powerOn_sweepSound : (s.powerOn levels).SweepSound :=
  State.sweepSound_of_idle rfl fun n => by rw [State.powerOn_lock]; rfl

theorem State.powerOn_sound : (s.powerOn levels).Sound := by
  obtain ⟨waits, clients, pool⟩ := (s.powerOn levels).agreed_iff.1 (s.powerOn_agreed levels)
  exact {
    locks := s.powerOn_locksSound levels
    waits
    clients
    pool
    notices := s.powerOn_noticesSound levels
    denial := s.powerOn_denialSound levels
    rank := s.powerOn_rankSound levels
    jobs := s.powerOn_jobsSound levels
    sweep := s.powerOn_sweepSound levels }

end

/-! ### The state after reset is a power-on state (log 2) -/

theorem powerOnClient_deasserted (c : ClientId) : powerOnClient 0 c = Client.powerOn := by
  simp [powerOnClient, Client.powerOn]

theorem powerOnLine_deasserted (a : AgentId) : powerOnLine 0 a = { attach := .attached, asserted := false } := by
  simp [powerOnLine]

theorem State.reset_powerOn_deasserted : State.reset.powerOn 0 = State.reset := by
  have clients : (Vector.ofFn fun c => powerOnClient 0 c) = State.reset.clients := by
    ext1 i hi
    rw [Vector.getElem_ofFn, powerOnClient_deasserted]
    exact (Vector.getElem_replicate hi).symm
  have lines : (Vector.ofFn fun a => powerOnLine 0 a) = State.reset.lines := by
    ext1 i hi
    rw [Vector.getElem_ofFn, powerOnLine_deasserted]
    exact (Vector.getElem_replicate hi).symm
  rw [State.powerOn, State.mapClients, State.mapLines, clients, lines]

/-- Settles O56: the reset state is the power-on state of deasserted levels, and that of any levels is sound. -/
theorem resetStateIsSound : Obligations.ResetStateIsSound := by
  have sound := State.reset.powerOn_sound 0
  rw [State.reset_powerOn_deasserted] at sound
  exact sound

end Sys2Proof.Machine
end
